-- ==== Sys2Proof/Word.lean ====
section
/-! DEFINITION. The machine's two widths (spec 00_scope.md R6): an 8-bit byte, the unit of memory and of the
data registers, and a 16-bit word, an address or the program counter. -/

namespace Sys2Proof

/-- One byte: a data register or a memory location (R6, R8). -/
abbrev Byte := BitVec 8

/-- Sixteen bits: an address, the program counter, a timer's latch or counter (R6, R8). -/
abbrev Word := BitVec 16

end Sys2Proof
end

