-- ==== Sys2Proof/Syntax.lean ====
section
/-! DEFINITION. The instruction set as syntax: one constructor of `Instr` per row of spec/opcode_table.json
(151 opcodes, 30_encoding.md R106), named mnemonic + addressing mode. A constructor's argument is its operand as
the encoding carries it: the byte after the opcode, or the 16-bit operand of the two bytes after it.
`Mnemonic` and `Mode` name the table's two columns, so that a claim can speak of all forms of one instruction. -/

namespace Sys2Proof

/-- The 56 mnemonics (00_scope.md R2). -/
inductive Mnemonic where
  | adc | and | asl | bcc | bcs | beq | bit | bmi | bne | bpl | brk | bvc | bvs | clc
  | cld | cli | clv | cmp | cpx | cpy | dec | dex | dey | eor | inc | inx | iny | jmp
  | jsr | lda | ldx | ldy | lsr | nop | ora | pha | php | pla | plp | rol | ror | rti
  | rts | sbc | sec | sed | sei | sta | stx | sty | tax | tay | tsx | txa | txs | tya
deriving DecidableEq, Repr

/-- The modes whose operand is a byte of memory at an effective address (30_encoding.md R95 to R100, R102, R103),
each with the operand its instruction bytes carry. -/
inductive MemMode where
  /-- Zero page (R95). -/
  | zp (b : Byte)
  /-- Zero page indexed by X (R96). -/
  | zpx (b : Byte)
  /-- Zero page indexed by Y (R97). -/
  | zpy (b : Byte)
  /-- Absolute (R98). -/
  | abs (w : Word)
  /-- Absolute indexed by X (R99). -/
  | absx (w : Word)
  /-- Absolute indexed by Y (R100). -/
  | absy (w : Word)
  /-- Indexed indirect, (zero page,X) (R102). -/
  | izx (b : Byte)
  /-- Indirect indexed, (zero page),Y (R103). -/
  | izy (b : Byte)
deriving DecidableEq, Repr

/-- Where an instruction's source operand `Operand(mode)` comes from (40_load_store_transfer.md R120 (c)):
the operand byte itself, or the byte at the effective address. -/
inductive Src where
  /-- Immediate (R94). -/
  | imm (b : Byte)
  /-- A byte of memory. -/
  | mem (m : MemMode)
deriving DecidableEq, Repr

/-- The 13 addressing modes (R92 to R104), each with the operand its instruction bytes carry. -/
inductive Mode where
  /-- Implied (R92). -/
  | imp
  /-- Accumulator (R93). -/
  | acc
  /-- Immediate and the eight memory modes (R94 to R100, R102, R103); `JMP` and `JSR` take the address of
  their absolute operand as the target and make no data access (R98). -/
  | data (o : Src)
  /-- Absolute indirect, `JMP` only (R101). -/
  | ind (w : Word)
  /-- Relative, the branches only (R104). -/
  | rel (b : Byte)
deriving DecidableEq, Repr

/-- The instructions: one constructor per opcode of R106. -/
inductive Instr where
  -- LDA (R121)
  | ldaIzx (b : Byte)  -- $A1 LDA ($nn,X)
  | ldaZp (b : Byte)  -- $A5 LDA $nn
  | ldaImm (b : Byte)  -- $A9 LDA #$nn
  | ldaAbs (w : Word)  -- $AD LDA $nnnn
  | ldaIzy (b : Byte)  -- $B1 LDA ($nn),Y
  | ldaZpx (b : Byte)  -- $B5 LDA $nn,X
  | ldaAbsy (w : Word)  -- $B9 LDA $nnnn,Y
  | ldaAbsx (w : Word)  -- $BD LDA $nnnn,X
  -- LDX (R122)
  | ldxImm (b : Byte)  -- $A2 LDX #$nn
  | ldxZp (b : Byte)  -- $A6 LDX $nn
  | ldxAbs (w : Word)  -- $AE LDX $nnnn
  | ldxZpy (b : Byte)  -- $B6 LDX $nn,Y
  | ldxAbsy (w : Word)  -- $BE LDX $nnnn,Y
  -- LDY (R123)
  | ldyImm (b : Byte)  -- $A0 LDY #$nn
  | ldyZp (b : Byte)  -- $A4 LDY $nn
  | ldyAbs (w : Word)  -- $AC LDY $nnnn
  | ldyZpx (b : Byte)  -- $B4 LDY $nn,X
  | ldyAbsx (w : Word)  -- $BC LDY $nnnn,X
  -- STA (R124)
  | staIzx (b : Byte)  -- $81 STA ($nn,X)
  | staZp (b : Byte)  -- $85 STA $nn
  | staAbs (w : Word)  -- $8D STA $nnnn
  | staIzy (b : Byte)  -- $91 STA ($nn),Y
  | staZpx (b : Byte)  -- $95 STA $nn,X
  | staAbsy (w : Word)  -- $99 STA $nnnn,Y
  | staAbsx (w : Word)  -- $9D STA $nnnn,X
  -- STX (R125)
  | stxZp (b : Byte)  -- $86 STX $nn
  | stxAbs (w : Word)  -- $8E STX $nnnn
  | stxZpy (b : Byte)  -- $96 STX $nn,Y
  -- STY (R126)
  | styZp (b : Byte)  -- $84 STY $nn
  | styAbs (w : Word)  -- $8C STY $nnnn
  | styZpx (b : Byte)  -- $94 STY $nn,X
  -- TAX (R127)
  | tax  -- $AA TAX
  -- TAY (R128)
  | tay  -- $A8 TAY
  -- TXA (R129)
  | txa  -- $8A TXA
  -- TYA (R130)
  | tya  -- $98 TYA
  -- TSX (R131)
  | tsx  -- $BA TSX
  -- TXS (R132)
  | txs  -- $9A TXS
  -- PHA (R133)
  | pha  -- $48 PHA
  -- PHP (R134)
  | php  -- $08 PHP
  -- PLA (R135)
  | pla  -- $68 PLA
  -- PLP (R136)
  | plp  -- $28 PLP
  -- ADC (R151)
  | adcIzx (b : Byte)  -- $61 ADC ($nn,X)
  | adcZp (b : Byte)  -- $65 ADC $nn
  | adcImm (b : Byte)  -- $69 ADC #$nn
  | adcAbs (w : Word)  -- $6D ADC $nnnn
  | adcIzy (b : Byte)  -- $71 ADC ($nn),Y
  | adcZpx (b : Byte)  -- $75 ADC $nn,X
  | adcAbsy (w : Word)  -- $79 ADC $nnnn,Y
  | adcAbsx (w : Word)  -- $7D ADC $nnnn,X
  -- SBC (R152)
  | sbcIzx (b : Byte)  -- $E1 SBC ($nn,X)
  | sbcZp (b : Byte)  -- $E5 SBC $nn
  | sbcImm (b : Byte)  -- $E9 SBC #$nn
  | sbcAbs (w : Word)  -- $ED SBC $nnnn
  | sbcIzy (b : Byte)  -- $F1 SBC ($nn),Y
  | sbcZpx (b : Byte)  -- $F5 SBC $nn,X
  | sbcAbsy (w : Word)  -- $F9 SBC $nnnn,Y
  | sbcAbsx (w : Word)  -- $FD SBC $nnnn,X
  -- AND (R153)
  | andIzx (b : Byte)  -- $21 AND ($nn,X)
  | andZp (b : Byte)  -- $25 AND $nn
  | andImm (b : Byte)  -- $29 AND #$nn
  | andAbs (w : Word)  -- $2D AND $nnnn
  | andIzy (b : Byte)  -- $31 AND ($nn),Y
  | andZpx (b : Byte)  -- $35 AND $nn,X
  | andAbsy (w : Word)  -- $39 AND $nnnn,Y
  | andAbsx (w : Word)  -- $3D AND $nnnn,X
  -- ORA (R154)
  | oraIzx (b : Byte)  -- $01 ORA ($nn,X)
  | oraZp (b : Byte)  -- $05 ORA $nn
  | oraImm (b : Byte)  -- $09 ORA #$nn
  | oraAbs (w : Word)  -- $0D ORA $nnnn
  | oraIzy (b : Byte)  -- $11 ORA ($nn),Y
  | oraZpx (b : Byte)  -- $15 ORA $nn,X
  | oraAbsy (w : Word)  -- $19 ORA $nnnn,Y
  | oraAbsx (w : Word)  -- $1D ORA $nnnn,X
  -- EOR (R155)
  | eorIzx (b : Byte)  -- $41 EOR ($nn,X)
  | eorZp (b : Byte)  -- $45 EOR $nn
  | eorImm (b : Byte)  -- $49 EOR #$nn
  | eorAbs (w : Word)  -- $4D EOR $nnnn
  | eorIzy (b : Byte)  -- $51 EOR ($nn),Y
  | eorZpx (b : Byte)  -- $55 EOR $nn,X
  | eorAbsy (w : Word)  -- $59 EOR $nnnn,Y
  | eorAbsx (w : Word)  -- $5D EOR $nnnn,X
  -- BIT (R156)
  | bitZp (b : Byte)  -- $24 BIT $nn
  | bitAbs (w : Word)  -- $2C BIT $nnnn
  -- CMP (R157)
  | cmpIzx (b : Byte)  -- $C1 CMP ($nn,X)
  | cmpZp (b : Byte)  -- $C5 CMP $nn
  | cmpImm (b : Byte)  -- $C9 CMP #$nn
  | cmpAbs (w : Word)  -- $CD CMP $nnnn
  | cmpIzy (b : Byte)  -- $D1 CMP ($nn),Y
  | cmpZpx (b : Byte)  -- $D5 CMP $nn,X
  | cmpAbsy (w : Word)  -- $D9 CMP $nnnn,Y
  | cmpAbsx (w : Word)  -- $DD CMP $nnnn,X
  -- CPX (R158)
  | cpxImm (b : Byte)  -- $E0 CPX #$nn
  | cpxZp (b : Byte)  -- $E4 CPX $nn
  | cpxAbs (w : Word)  -- $EC CPX $nnnn
  -- CPY (R159)
  | cpyImm (b : Byte)  -- $C0 CPY #$nn
  | cpyZp (b : Byte)  -- $C4 CPY $nn
  | cpyAbs (w : Word)  -- $CC CPY $nnnn
  -- INC (R160)
  | incZp (b : Byte)  -- $E6 INC $nn
  | incAbs (w : Word)  -- $EE INC $nnnn
  | incZpx (b : Byte)  -- $F6 INC $nn,X
  | incAbsx (w : Word)  -- $FE INC $nnnn,X
  -- DEC (R161)
  | decZp (b : Byte)  -- $C6 DEC $nn
  | decAbs (w : Word)  -- $CE DEC $nnnn
  | decZpx (b : Byte)  -- $D6 DEC $nn,X
  | decAbsx (w : Word)  -- $DE DEC $nnnn,X
  -- INX (R162)
  | inx  -- $E8 INX
  -- INY (R163)
  | iny  -- $C8 INY
  -- DEX (R164)
  | dex  -- $CA DEX
  -- DEY (R165)
  | dey  -- $88 DEY
  -- ASL (R166)
  | aslZp (b : Byte)  -- $06 ASL $nn
  | aslAcc  -- $0A ASL A
  | aslAbs (w : Word)  -- $0E ASL $nnnn
  | aslZpx (b : Byte)  -- $16 ASL $nn,X
  | aslAbsx (w : Word)  -- $1E ASL $nnnn,X
  -- LSR (R167)
  | lsrZp (b : Byte)  -- $46 LSR $nn
  | lsrAcc  -- $4A LSR A
  | lsrAbs (w : Word)  -- $4E LSR $nnnn
  | lsrZpx (b : Byte)  -- $56 LSR $nn,X
  | lsrAbsx (w : Word)  -- $5E LSR $nnnn,X
  -- ROL (R168)
  | rolZp (b : Byte)  -- $26 ROL $nn
  | rolAcc  -- $2A ROL A
  | rolAbs (w : Word)  -- $2E ROL $nnnn
  | rolZpx (b : Byte)  -- $36 ROL $nn,X
  | rolAbsx (w : Word)  -- $3E ROL $nnnn,X
  -- ROR (R169)
  | rorZp (b : Byte)  -- $66 ROR $nn
  | rorAcc  -- $6A ROR A
  | rorAbs (w : Word)  -- $6E ROR $nnnn
  | rorZpx (b : Byte)  -- $76 ROR $nn,X
  | rorAbsx (w : Word)  -- $7E ROR $nnnn,X
  -- BCC (R191)
  | bcc (b : Byte)  -- $90 BCC label
  -- BCS (R192)
  | bcs (b : Byte)  -- $B0 BCS label
  -- BEQ (R193)
  | beq (b : Byte)  -- $F0 BEQ label
  -- BMI (R194)
  | bmi (b : Byte)  -- $30 BMI label
  -- BNE (R195)
  | bne (b : Byte)  -- $D0 BNE label
  -- BPL (R196)
  | bpl (b : Byte)  -- $10 BPL label
  -- BVC (R197)
  | bvc (b : Byte)  -- $50 BVC label
  -- BVS (R198)
  | bvs (b : Byte)  -- $70 BVS label
  -- JMP (R199)
  | jmpAbs (w : Word)  -- $4C JMP $nnnn
  | jmpInd (w : Word)  -- $6C JMP ($nnnn)
  -- JSR (R200)
  | jsrAbs (w : Word)  -- $20 JSR $nnnn
  -- RTS (R201)
  | rts  -- $60 RTS
  -- RTI (R202)
  | rti  -- $40 RTI
  -- BRK (R203)
  | brk  -- $00 BRK
  -- NOP (R204)
  | nop  -- $EA NOP
  -- CLC (R205)
  | clc  -- $18 CLC
  -- SEC (R206)
  | sec  -- $38 SEC
  -- CLI (R207)
  | cli  -- $58 CLI
  -- SEI (R208)
  | sei  -- $78 SEI
  -- CLD (R209)
  | cld  -- $D8 CLD
  -- SED (R210)
  | sed  -- $F8 SED
  -- CLV (R211)
  | clv  -- $B8 CLV
deriving DecidableEq, Repr

end Sys2Proof
end

