-- ==== Sys2Proof/Decode.lean ====
section
/-! DEFINITION. Instruction bytes and what they mean (spec 30_encoding.md): the decoder, total on any bytes and
rejecting by name, and after it the encoder, both from the opcode map of R106. Byte order is little-endian (R60).
The helpers that split and join a 16-bit value stand here, since every layer above uses them. -/

namespace Sys2Proof

/-- `lo8(w) = w[7:0]` (00_scope.md R8). -/
def lo8 (w : Word) : Byte := w.extractLsb' 0 8

/-- `hi8(w) = w[15:8]` (R8). -/
def hi8 (w : Word) : Byte := w.extractLsb' 8 8

/-- `(hi, lo)` joined with hi the more significant part (R8). -/
def wordOf (hi lo : Byte) : Word := hi ++ lo

/-- What follows a legal opcode byte (R90): nothing, one operand byte, or a 16-bit operand, low byte first. -/
inductive OpShape where
  | implied (i : Instr)
  | byte (mk : Byte → Instr)
  | word (mk : Word → Instr)

/-- Row 0x of the opcode map R106. -/
def opcodeRow0 : List (Byte × OpShape) :=
  [ (0x00#8, .implied .brk), (0x01#8, .byte .oraIzx), (0x05#8, .byte .oraZp),
    (0x06#8, .byte .aslZp), (0x08#8, .implied .php), (0x09#8, .byte .oraImm),
    (0x0A#8, .implied .aslAcc), (0x0D#8, .word .oraAbs), (0x0E#8, .word .aslAbs) ]

/-- Row 1x of the opcode map R106. -/
def opcodeRow1 : List (Byte × OpShape) :=
  [ (0x10#8, .byte .bpl), (0x11#8, .byte .oraIzy), (0x15#8, .byte .oraZpx),
    (0x16#8, .byte .aslZpx), (0x18#8, .implied .clc), (0x19#8, .word .oraAbsy),
    (0x1D#8, .word .oraAbsx), (0x1E#8, .word .aslAbsx) ]

/-- Row 2x of the opcode map R106. -/
def opcodeRow2 : List (Byte × OpShape) :=
  [ (0x20#8, .word .jsrAbs), (0x21#8, .byte .andIzx), (0x24#8, .byte .bitZp),
    (0x25#8, .byte .andZp), (0x26#8, .byte .rolZp), (0x28#8, .implied .plp),
    (0x29#8, .byte .andImm), (0x2A#8, .implied .rolAcc), (0x2C#8, .word .bitAbs),
    (0x2D#8, .word .andAbs), (0x2E#8, .word .rolAbs) ]

/-- Row 3x of the opcode map R106. -/
def opcodeRow3 : List (Byte × OpShape) :=
  [ (0x30#8, .byte .bmi), (0x31#8, .byte .andIzy), (0x35#8, .byte .andZpx),
    (0x36#8, .byte .rolZpx), (0x38#8, .implied .sec), (0x39#8, .word .andAbsy),
    (0x3D#8, .word .andAbsx), (0x3E#8, .word .rolAbsx) ]

/-- Row 4x of the opcode map R106. -/
def opcodeRow4 : List (Byte × OpShape) :=
  [ (0x40#8, .implied .rti), (0x41#8, .byte .eorIzx), (0x45#8, .byte .eorZp),
    (0x46#8, .byte .lsrZp), (0x48#8, .implied .pha), (0x49#8, .byte .eorImm),
    (0x4A#8, .implied .lsrAcc), (0x4C#8, .word .jmpAbs), (0x4D#8, .word .eorAbs),
    (0x4E#8, .word .lsrAbs) ]

/-- Row 5x of the opcode map R106. -/
def opcodeRow5 : List (Byte × OpShape) :=
  [ (0x50#8, .byte .bvc), (0x51#8, .byte .eorIzy), (0x55#8, .byte .eorZpx),
    (0x56#8, .byte .lsrZpx), (0x58#8, .implied .cli), (0x59#8, .word .eorAbsy),
    (0x5D#8, .word .eorAbsx), (0x5E#8, .word .lsrAbsx) ]

/-- Row 6x of the opcode map R106. -/
def opcodeRow6 : List (Byte × OpShape) :=
  [ (0x60#8, .implied .rts), (0x61#8, .byte .adcIzx), (0x65#8, .byte .adcZp),
    (0x66#8, .byte .rorZp), (0x68#8, .implied .pla), (0x69#8, .byte .adcImm),
    (0x6A#8, .implied .rorAcc), (0x6C#8, .word .jmpInd), (0x6D#8, .word .adcAbs),
    (0x6E#8, .word .rorAbs) ]

/-- Row 7x of the opcode map R106. -/
def opcodeRow7 : List (Byte × OpShape) :=
  [ (0x70#8, .byte .bvs), (0x71#8, .byte .adcIzy), (0x75#8, .byte .adcZpx),
    (0x76#8, .byte .rorZpx), (0x78#8, .implied .sei), (0x79#8, .word .adcAbsy),
    (0x7D#8, .word .adcAbsx), (0x7E#8, .word .rorAbsx) ]

/-- Row 8x of the opcode map R106. -/
def opcodeRow8 : List (Byte × OpShape) :=
  [ (0x81#8, .byte .staIzx), (0x84#8, .byte .styZp), (0x85#8, .byte .staZp),
    (0x86#8, .byte .stxZp), (0x88#8, .implied .dey), (0x8A#8, .implied .txa),
    (0x8C#8, .word .styAbs), (0x8D#8, .word .staAbs), (0x8E#8, .word .stxAbs) ]

/-- Row 9x of the opcode map R106. -/
def opcodeRow9 : List (Byte × OpShape) :=
  [ (0x90#8, .byte .bcc), (0x91#8, .byte .staIzy), (0x94#8, .byte .styZpx),
    (0x95#8, .byte .staZpx), (0x96#8, .byte .stxZpy), (0x98#8, .implied .tya),
    (0x99#8, .word .staAbsy), (0x9A#8, .implied .txs), (0x9D#8, .word .staAbsx) ]

/-- Row Ax of the opcode map R106. -/
def opcodeRowA : List (Byte × OpShape) :=
  [ (0xA0#8, .byte .ldyImm), (0xA1#8, .byte .ldaIzx), (0xA2#8, .byte .ldxImm),
    (0xA4#8, .byte .ldyZp), (0xA5#8, .byte .ldaZp), (0xA6#8, .byte .ldxZp),
    (0xA8#8, .implied .tay), (0xA9#8, .byte .ldaImm), (0xAA#8, .implied .tax),
    (0xAC#8, .word .ldyAbs), (0xAD#8, .word .ldaAbs), (0xAE#8, .word .ldxAbs) ]

/-- Row Bx of the opcode map R106. -/
def opcodeRowB : List (Byte × OpShape) :=
  [ (0xB0#8, .byte .bcs), (0xB1#8, .byte .ldaIzy), (0xB4#8, .byte .ldyZpx),
    (0xB5#8, .byte .ldaZpx), (0xB6#8, .byte .ldxZpy), (0xB8#8, .implied .clv),
    (0xB9#8, .word .ldaAbsy), (0xBA#8, .implied .tsx), (0xBC#8, .word .ldyAbsx),
    (0xBD#8, .word .ldaAbsx), (0xBE#8, .word .ldxAbsy) ]

/-- Row Cx of the opcode map R106. -/
def opcodeRowC : List (Byte × OpShape) :=
  [ (0xC0#8, .byte .cpyImm), (0xC1#8, .byte .cmpIzx), (0xC4#8, .byte .cpyZp),
    (0xC5#8, .byte .cmpZp), (0xC6#8, .byte .decZp), (0xC8#8, .implied .iny),
    (0xC9#8, .byte .cmpImm), (0xCA#8, .implied .dex), (0xCC#8, .word .cpyAbs),
    (0xCD#8, .word .cmpAbs), (0xCE#8, .word .decAbs) ]

/-- Row Dx of the opcode map R106. -/
def opcodeRowD : List (Byte × OpShape) :=
  [ (0xD0#8, .byte .bne), (0xD1#8, .byte .cmpIzy), (0xD5#8, .byte .cmpZpx),
    (0xD6#8, .byte .decZpx), (0xD8#8, .implied .cld), (0xD9#8, .word .cmpAbsy),
    (0xDD#8, .word .cmpAbsx), (0xDE#8, .word .decAbsx) ]

/-- Row Ex of the opcode map R106. -/
def opcodeRowE : List (Byte × OpShape) :=
  [ (0xE0#8, .byte .cpxImm), (0xE1#8, .byte .sbcIzx), (0xE4#8, .byte .cpxZp),
    (0xE5#8, .byte .sbcZp), (0xE6#8, .byte .incZp), (0xE8#8, .implied .inx),
    (0xE9#8, .byte .sbcImm), (0xEA#8, .implied .nop), (0xEC#8, .word .cpxAbs),
    (0xED#8, .word .sbcAbs), (0xEE#8, .word .incAbs) ]

/-- Row Fx of the opcode map R106. -/
def opcodeRowF : List (Byte × OpShape) :=
  [ (0xF0#8, .byte .beq), (0xF1#8, .byte .sbcIzy), (0xF5#8, .byte .sbcZpx),
    (0xF6#8, .byte .incZpx), (0xF8#8, .implied .sed), (0xF9#8, .word .sbcAbsy),
    (0xFD#8, .word .sbcAbsx), (0xFE#8, .word .incAbsx) ]

/-- The opcode map (R106, R91): every legal opcode byte with the instruction it starts. -/
def opcodeMap : List (Byte × OpShape) :=
  opcodeRow0 ++ opcodeRow1 ++ opcodeRow2 ++ opcodeRow3 ++ opcodeRow4 ++ opcodeRow5 ++ opcodeRow6 ++ opcodeRow7 ++
  opcodeRow8 ++ opcodeRow9 ++ opcodeRowA ++ opcodeRowB ++ opcodeRowC ++ opcodeRowD ++ opcodeRowE ++ opcodeRowF

/-- The opcode map read at one byte; `none` is an illegal opcode (R107). -/
def opcodeShape (op : Byte) : Option OpShape := opcodeMap.lookup op

/-- Why bytes are no instruction. -/
inductive DecodeError where
  /-- There is no opcode byte. -/
  | noBytes
  /-- The opcode is one of the 105 illegal values (R107). -/
  | illegalOpcode (op : Byte)
  /-- An operand byte of a legal opcode is missing (R90). -/
  | truncated (op : Byte)
deriving DecidableEq, Repr

/-- The instruction at the head of `bytes`, with the bytes after it. The opcode alone fixes how many bytes are
taken (R90, R109); `BRK` takes its opcode byte only, since its padding byte is not read (R203). -/
def decode : List Byte → Except DecodeError (Instr × List Byte)
  | [] => .error .noBytes
  | op :: rest =>
    match opcodeShape op, rest with
    | none, _ => .error (.illegalOpcode op)
    | some (.implied i), rest => .ok (i, rest)
    | some (.byte mk), b :: rest => .ok (mk b, rest)
    | some (.word mk), lo :: hi :: rest => .ok (mk (wordOf hi lo), rest)
    | some _, _ => .error (.truncated op)

/-- The opcode byte of an instruction (R106). -/
def Instr.opcode : Instr → Byte
  | .ldaIzx _ => 0xA1#8
  | .ldaZp _ => 0xA5#8
  | .ldaImm _ => 0xA9#8
  | .ldaAbs _ => 0xAD#8
  | .ldaIzy _ => 0xB1#8
  | .ldaZpx _ => 0xB5#8
  | .ldaAbsy _ => 0xB9#8
  | .ldaAbsx _ => 0xBD#8
  | .ldxImm _ => 0xA2#8
  | .ldxZp _ => 0xA6#8
  | .ldxAbs _ => 0xAE#8
  | .ldxZpy _ => 0xB6#8
  | .ldxAbsy _ => 0xBE#8
  | .ldyImm _ => 0xA0#8
  | .ldyZp _ => 0xA4#8
  | .ldyAbs _ => 0xAC#8
  | .ldyZpx _ => 0xB4#8
  | .ldyAbsx _ => 0xBC#8
  | .staIzx _ => 0x81#8
  | .staZp _ => 0x85#8
  | .staAbs _ => 0x8D#8
  | .staIzy _ => 0x91#8
  | .staZpx _ => 0x95#8
  | .staAbsy _ => 0x99#8
  | .staAbsx _ => 0x9D#8
  | .stxZp _ => 0x86#8
  | .stxAbs _ => 0x8E#8
  | .stxZpy _ => 0x96#8
  | .styZp _ => 0x84#8
  | .styAbs _ => 0x8C#8
  | .styZpx _ => 0x94#8
  | .tax => 0xAA#8
  | .tay => 0xA8#8
  | .txa => 0x8A#8
  | .tya => 0x98#8
  | .tsx => 0xBA#8
  | .txs => 0x9A#8
  | .pha => 0x48#8
  | .php => 0x08#8
  | .pla => 0x68#8
  | .plp => 0x28#8
  | .adcIzx _ => 0x61#8
  | .adcZp _ => 0x65#8
  | .adcImm _ => 0x69#8
  | .adcAbs _ => 0x6D#8
  | .adcIzy _ => 0x71#8
  | .adcZpx _ => 0x75#8
  | .adcAbsy _ => 0x79#8
  | .adcAbsx _ => 0x7D#8
  | .sbcIzx _ => 0xE1#8
  | .sbcZp _ => 0xE5#8
  | .sbcImm _ => 0xE9#8
  | .sbcAbs _ => 0xED#8
  | .sbcIzy _ => 0xF1#8
  | .sbcZpx _ => 0xF5#8
  | .sbcAbsy _ => 0xF9#8
  | .sbcAbsx _ => 0xFD#8
  | .andIzx _ => 0x21#8
  | .andZp _ => 0x25#8
  | .andImm _ => 0x29#8
  | .andAbs _ => 0x2D#8
  | .andIzy _ => 0x31#8
  | .andZpx _ => 0x35#8
  | .andAbsy _ => 0x39#8
  | .andAbsx _ => 0x3D#8
  | .oraIzx _ => 0x01#8
  | .oraZp _ => 0x05#8
  | .oraImm _ => 0x09#8
  | .oraAbs _ => 0x0D#8
  | .oraIzy _ => 0x11#8
  | .oraZpx _ => 0x15#8
  | .oraAbsy _ => 0x19#8
  | .oraAbsx _ => 0x1D#8
  | .eorIzx _ => 0x41#8
  | .eorZp _ => 0x45#8
  | .eorImm _ => 0x49#8
  | .eorAbs _ => 0x4D#8
  | .eorIzy _ => 0x51#8
  | .eorZpx _ => 0x55#8
  | .eorAbsy _ => 0x59#8
  | .eorAbsx _ => 0x5D#8
  | .bitZp _ => 0x24#8
  | .bitAbs _ => 0x2C#8
  | .cmpIzx _ => 0xC1#8
  | .cmpZp _ => 0xC5#8
  | .cmpImm _ => 0xC9#8
  | .cmpAbs _ => 0xCD#8
  | .cmpIzy _ => 0xD1#8
  | .cmpZpx _ => 0xD5#8
  | .cmpAbsy _ => 0xD9#8
  | .cmpAbsx _ => 0xDD#8
  | .cpxImm _ => 0xE0#8
  | .cpxZp _ => 0xE4#8
  | .cpxAbs _ => 0xEC#8
  | .cpyImm _ => 0xC0#8
  | .cpyZp _ => 0xC4#8
  | .cpyAbs _ => 0xCC#8
  | .incZp _ => 0xE6#8
  | .incAbs _ => 0xEE#8
  | .incZpx _ => 0xF6#8
  | .incAbsx _ => 0xFE#8
  | .decZp _ => 0xC6#8
  | .decAbs _ => 0xCE#8
  | .decZpx _ => 0xD6#8
  | .decAbsx _ => 0xDE#8
  | .inx => 0xE8#8
  | .iny => 0xC8#8
  | .dex => 0xCA#8
  | .dey => 0x88#8
  | .aslZp _ => 0x06#8
  | .aslAcc => 0x0A#8
  | .aslAbs _ => 0x0E#8
  | .aslZpx _ => 0x16#8
  | .aslAbsx _ => 0x1E#8
  | .lsrZp _ => 0x46#8
  | .lsrAcc => 0x4A#8
  | .lsrAbs _ => 0x4E#8
  | .lsrZpx _ => 0x56#8
  | .lsrAbsx _ => 0x5E#8
  | .rolZp _ => 0x26#8
  | .rolAcc => 0x2A#8
  | .rolAbs _ => 0x2E#8
  | .rolZpx _ => 0x36#8
  | .rolAbsx _ => 0x3E#8
  | .rorZp _ => 0x66#8
  | .rorAcc => 0x6A#8
  | .rorAbs _ => 0x6E#8
  | .rorZpx _ => 0x76#8
  | .rorAbsx _ => 0x7E#8
  | .bcc _ => 0x90#8
  | .bcs _ => 0xB0#8
  | .beq _ => 0xF0#8
  | .bmi _ => 0x30#8
  | .bne _ => 0xD0#8
  | .bpl _ => 0x10#8
  | .bvc _ => 0x50#8
  | .bvs _ => 0x70#8
  | .jmpAbs _ => 0x4C#8
  | .jmpInd _ => 0x6C#8
  | .jsrAbs _ => 0x20#8
  | .rts => 0x60#8
  | .rti => 0x40#8
  | .brk => 0x00#8
  | .nop => 0xEA#8
  | .clc => 0x18#8
  | .sec => 0x38#8
  | .cli => 0x58#8
  | .sei => 0x78#8
  | .cld => 0xD8#8
  | .sed => 0xF8#8
  | .clv => 0xB8#8

/-- The mnemonic column of the opcode table. -/
def Instr.mnemonic : Instr → Mnemonic
  | .ldaIzx _ | .ldaZp _ | .ldaImm _ | .ldaAbs _ | .ldaIzy _ | .ldaZpx _ | .ldaAbsy _ | .ldaAbsx _ => .lda
  | .ldxImm _ | .ldxZp _ | .ldxAbs _ | .ldxZpy _ | .ldxAbsy _ => .ldx
  | .ldyImm _ | .ldyZp _ | .ldyAbs _ | .ldyZpx _ | .ldyAbsx _ => .ldy
  | .staIzx _ | .staZp _ | .staAbs _ | .staIzy _ | .staZpx _ | .staAbsy _ | .staAbsx _ => .sta
  | .stxZp _ | .stxAbs _ | .stxZpy _ => .stx
  | .styZp _ | .styAbs _ | .styZpx _ => .sty
  | .tax => .tax
  | .tay => .tay
  | .txa => .txa
  | .tya => .tya
  | .tsx => .tsx
  | .txs => .txs
  | .pha => .pha
  | .php => .php
  | .pla => .pla
  | .plp => .plp
  | .adcIzx _ | .adcZp _ | .adcImm _ | .adcAbs _ | .adcIzy _ | .adcZpx _ | .adcAbsy _ | .adcAbsx _ => .adc
  | .sbcIzx _ | .sbcZp _ | .sbcImm _ | .sbcAbs _ | .sbcIzy _ | .sbcZpx _ | .sbcAbsy _ | .sbcAbsx _ => .sbc
  | .andIzx _ | .andZp _ | .andImm _ | .andAbs _ | .andIzy _ | .andZpx _ | .andAbsy _ | .andAbsx _ => .and
  | .oraIzx _ | .oraZp _ | .oraImm _ | .oraAbs _ | .oraIzy _ | .oraZpx _ | .oraAbsy _ | .oraAbsx _ => .ora
  | .eorIzx _ | .eorZp _ | .eorImm _ | .eorAbs _ | .eorIzy _ | .eorZpx _ | .eorAbsy _ | .eorAbsx _ => .eor
  | .bitZp _ | .bitAbs _ => .bit
  | .cmpIzx _ | .cmpZp _ | .cmpImm _ | .cmpAbs _ | .cmpIzy _ | .cmpZpx _ | .cmpAbsy _ | .cmpAbsx _ => .cmp
  | .cpxImm _ | .cpxZp _ | .cpxAbs _ => .cpx
  | .cpyImm _ | .cpyZp _ | .cpyAbs _ => .cpy
  | .incZp _ | .incAbs _ | .incZpx _ | .incAbsx _ => .inc
  | .decZp _ | .decAbs _ | .decZpx _ | .decAbsx _ => .dec
  | .inx => .inx
  | .iny => .iny
  | .dex => .dex
  | .dey => .dey
  | .aslZp _ | .aslAcc | .aslAbs _ | .aslZpx _ | .aslAbsx _ => .asl
  | .lsrZp _ | .lsrAcc | .lsrAbs _ | .lsrZpx _ | .lsrAbsx _ => .lsr
  | .rolZp _ | .rolAcc | .rolAbs _ | .rolZpx _ | .rolAbsx _ => .rol
  | .rorZp _ | .rorAcc | .rorAbs _ | .rorZpx _ | .rorAbsx _ => .ror
  | .bcc _ => .bcc
  | .bcs _ => .bcs
  | .beq _ => .beq
  | .bmi _ => .bmi
  | .bne _ => .bne
  | .bpl _ => .bpl
  | .bvc _ => .bvc
  | .bvs _ => .bvs
  | .jmpAbs _ | .jmpInd _ => .jmp
  | .jsrAbs _ => .jsr
  | .rts => .rts
  | .rti => .rti
  | .brk => .brk
  | .nop => .nop
  | .clc => .clc
  | .sec => .sec
  | .cli => .cli
  | .sei => .sei
  | .cld => .cld
  | .sed => .sed
  | .clv => .clv

/-- The mode column of the opcode table, with the operand the instruction carries (R92 to R104). -/
def Instr.mode : Instr → Mode
  | .ldaIzx b => .data (.mem (.izx b))
  | .ldaZp b => .data (.mem (.zp b))
  | .ldaImm b => .data (.imm b)
  | .ldaAbs w => .data (.mem (.abs w))
  | .ldaIzy b => .data (.mem (.izy b))
  | .ldaZpx b => .data (.mem (.zpx b))
  | .ldaAbsy w => .data (.mem (.absy w))
  | .ldaAbsx w => .data (.mem (.absx w))
  | .ldxImm b => .data (.imm b)
  | .ldxZp b => .data (.mem (.zp b))
  | .ldxAbs w => .data (.mem (.abs w))
  | .ldxZpy b => .data (.mem (.zpy b))
  | .ldxAbsy w => .data (.mem (.absy w))
  | .ldyImm b => .data (.imm b)
  | .ldyZp b => .data (.mem (.zp b))
  | .ldyAbs w => .data (.mem (.abs w))
  | .ldyZpx b => .data (.mem (.zpx b))
  | .ldyAbsx w => .data (.mem (.absx w))
  | .staIzx b => .data (.mem (.izx b))
  | .staZp b => .data (.mem (.zp b))
  | .staAbs w => .data (.mem (.abs w))
  | .staIzy b => .data (.mem (.izy b))
  | .staZpx b => .data (.mem (.zpx b))
  | .staAbsy w => .data (.mem (.absy w))
  | .staAbsx w => .data (.mem (.absx w))
  | .stxZp b => .data (.mem (.zp b))
  | .stxAbs w => .data (.mem (.abs w))
  | .stxZpy b => .data (.mem (.zpy b))
  | .styZp b => .data (.mem (.zp b))
  | .styAbs w => .data (.mem (.abs w))
  | .styZpx b => .data (.mem (.zpx b))
  | .tax => .imp
  | .tay => .imp
  | .txa => .imp
  | .tya => .imp
  | .tsx => .imp
  | .txs => .imp
  | .pha => .imp
  | .php => .imp
  | .pla => .imp
  | .plp => .imp
  | .adcIzx b => .data (.mem (.izx b))
  | .adcZp b => .data (.mem (.zp b))
  | .adcImm b => .data (.imm b)
  | .adcAbs w => .data (.mem (.abs w))
  | .adcIzy b => .data (.mem (.izy b))
  | .adcZpx b => .data (.mem (.zpx b))
  | .adcAbsy w => .data (.mem (.absy w))
  | .adcAbsx w => .data (.mem (.absx w))
  | .sbcIzx b => .data (.mem (.izx b))
  | .sbcZp b => .data (.mem (.zp b))
  | .sbcImm b => .data (.imm b)
  | .sbcAbs w => .data (.mem (.abs w))
  | .sbcIzy b => .data (.mem (.izy b))
  | .sbcZpx b => .data (.mem (.zpx b))
  | .sbcAbsy w => .data (.mem (.absy w))
  | .sbcAbsx w => .data (.mem (.absx w))
  | .andIzx b => .data (.mem (.izx b))
  | .andZp b => .data (.mem (.zp b))
  | .andImm b => .data (.imm b)
  | .andAbs w => .data (.mem (.abs w))
  | .andIzy b => .data (.mem (.izy b))
  | .andZpx b => .data (.mem (.zpx b))
  | .andAbsy w => .data (.mem (.absy w))
  | .andAbsx w => .data (.mem (.absx w))
  | .oraIzx b => .data (.mem (.izx b))
  | .oraZp b => .data (.mem (.zp b))
  | .oraImm b => .data (.imm b)
  | .oraAbs w => .data (.mem (.abs w))
  | .oraIzy b => .data (.mem (.izy b))
  | .oraZpx b => .data (.mem (.zpx b))
  | .oraAbsy w => .data (.mem (.absy w))
  | .oraAbsx w => .data (.mem (.absx w))
  | .eorIzx b => .data (.mem (.izx b))
  | .eorZp b => .data (.mem (.zp b))
  | .eorImm b => .data (.imm b)
  | .eorAbs w => .data (.mem (.abs w))
  | .eorIzy b => .data (.mem (.izy b))
  | .eorZpx b => .data (.mem (.zpx b))
  | .eorAbsy w => .data (.mem (.absy w))
  | .eorAbsx w => .data (.mem (.absx w))
  | .bitZp b => .data (.mem (.zp b))
  | .bitAbs w => .data (.mem (.abs w))
  | .cmpIzx b => .data (.mem (.izx b))
  | .cmpZp b => .data (.mem (.zp b))
  | .cmpImm b => .data (.imm b)
  | .cmpAbs w => .data (.mem (.abs w))
  | .cmpIzy b => .data (.mem (.izy b))
  | .cmpZpx b => .data (.mem (.zpx b))
  | .cmpAbsy w => .data (.mem (.absy w))
  | .cmpAbsx w => .data (.mem (.absx w))
  | .cpxImm b => .data (.imm b)
  | .cpxZp b => .data (.mem (.zp b))
  | .cpxAbs w => .data (.mem (.abs w))
  | .cpyImm b => .data (.imm b)
  | .cpyZp b => .data (.mem (.zp b))
  | .cpyAbs w => .data (.mem (.abs w))
  | .incZp b => .data (.mem (.zp b))
  | .incAbs w => .data (.mem (.abs w))
  | .incZpx b => .data (.mem (.zpx b))
  | .incAbsx w => .data (.mem (.absx w))
  | .decZp b => .data (.mem (.zp b))
  | .decAbs w => .data (.mem (.abs w))
  | .decZpx b => .data (.mem (.zpx b))
  | .decAbsx w => .data (.mem (.absx w))
  | .inx => .imp
  | .iny => .imp
  | .dex => .imp
  | .dey => .imp
  | .aslZp b => .data (.mem (.zp b))
  | .aslAcc => .acc
  | .aslAbs w => .data (.mem (.abs w))
  | .aslZpx b => .data (.mem (.zpx b))
  | .aslAbsx w => .data (.mem (.absx w))
  | .lsrZp b => .data (.mem (.zp b))
  | .lsrAcc => .acc
  | .lsrAbs w => .data (.mem (.abs w))
  | .lsrZpx b => .data (.mem (.zpx b))
  | .lsrAbsx w => .data (.mem (.absx w))
  | .rolZp b => .data (.mem (.zp b))
  | .rolAcc => .acc
  | .rolAbs w => .data (.mem (.abs w))
  | .rolZpx b => .data (.mem (.zpx b))
  | .rolAbsx w => .data (.mem (.absx w))
  | .rorZp b => .data (.mem (.zp b))
  | .rorAcc => .acc
  | .rorAbs w => .data (.mem (.abs w))
  | .rorZpx b => .data (.mem (.zpx b))
  | .rorAbsx w => .data (.mem (.absx w))
  | .bcc b => .rel b
  | .bcs b => .rel b
  | .beq b => .rel b
  | .bmi b => .rel b
  | .bne b => .rel b
  | .bpl b => .rel b
  | .bvc b => .rel b
  | .bvs b => .rel b
  | .jmpAbs w => .data (.mem (.abs w))
  | .jmpInd w => .ind w
  | .jsrAbs w => .data (.mem (.abs w))
  | .rts => .imp
  | .rti => .imp
  | .brk => .imp
  | .nop => .imp
  | .clc => .imp
  | .sec => .imp
  | .cli => .imp
  | .sei => .imp
  | .cld => .imp
  | .sed => .imp
  | .clv => .imp

/-- The two bytes of a 16-bit operand, low byte first (R60). -/
def wordBytes (w : Word) : List Byte := [lo8 w, hi8 w]

/-- The bytes of an operand taken from memory (R95 to R100, R102, R103). -/
def MemMode.bytes : MemMode → List Byte
  | .zp b | .zpx b | .zpy b | .izx b | .izy b => [b]
  | .abs w | .absx w | .absy w => wordBytes w

/-- The bytes of a source operand (R94 to R103). -/
def Src.bytes : Src → List Byte
  | .imm b => [b]
  | .mem m => m.bytes

/-- The operand bytes a mode puts after the opcode (R90). -/
def Mode.bytes : Mode → List Byte
  | .imp | .acc => []
  | .data o => o.bytes
  | .ind w => wordBytes w
  | .rel b => [b]

/-- The bytes of an instruction: its opcode and its operand bytes (R90). -/
def encode (i : Instr) : List Byte := i.opcode :: i.mode.bytes

/-- How far the pc moves past an instruction (R25, R90): opcode and operand bytes, and for `BRK` 2 (R203). -/
def Instr.length (i : Instr) : Nat := if i.mnemonic = .brk then 2 else 1 + i.mode.bytes.length

/-- An instruction is well formed if its bytes pass the checks of WellFormed.lean. -/
def Instr.wf (i : Instr) : Bool := wfBytes (encode i)

/-- The instruction this decoder reads from an instruction whose low `nbits` bits are those of `w`, bit 0 the least
significant bit of the opcode byte, and every bit above them 0 (three bytes, the longest instruction of R90). -/
def tableBytes (nbits w : Nat) : List Byte :=
  let v := w % 2 ^ nbits
  [BitVec.ofNat 8 v, BitVec.ofNat 8 (v / 2 ^ 8), BitVec.ofNat 8 (v / 2 ^ 16)]

/-- The decoder on the bytes of `tableBytes` (R91: the opcode map is the decoder). -/
def decodeTableWord (nbits w : Nat) : Option Instr :=
  match decode (tableBytes nbits w) with
  | .ok (i, _) => some i
  | .error _ => none

end Sys2Proof
end

