-- ==== Sys2Proof/Config.lean ====
section
/-! DEFINITION. What the spec leaves to the implementation (00_scope.md R7): the parameters, which a State carries
as constants (log 1), and the draws, which are constants with no body that nothing can evaluate (log 6, 7). -/

namespace Sys2Proof

/-- The three interrupt sources, which are also the three chips with registers on the bus (60_exceptions.md R246). -/
inductive Chip where
  | timer0
  | timer1
  | video
deriving DecidableEq, Repr

/-- The numeric parameters of R7. `NMI_SOURCES` is a set of the three interrupt sources, one flag each. -/
structure Params where
  /-- `CYCLES_PER_LINE`, a positive integer (D12). -/
  cyclesPerLine : Nat
  /-- `LINES_PER_FRAME`, 1 to 512 (D12). -/
  linesPerFrame : Nat
  /-- Timer 0 is a member of `NMI_SOURCES` (D14). -/
  nmiTimer0 : Bool
  /-- Timer 1 is a member of `NMI_SOURCES` (D14). -/
  nmiTimer1 : Bool
  /-- The video chip is a member of `NMI_SOURCES` (D14). -/
  nmiVideo : Bool
deriving DecidableEq, Repr

/-- The defaults of R7: 63 cycles per line, 312 lines per frame, no NMI source. -/
def Params.default : Params :=
  { cyclesPerLine := 63, linesPerFrame := 312, nmiTimer0 := false, nmiTimer1 := false, nmiVideo := false }

/-- The ranges R7 gives the parameters. -/
def Params.wf (p : Params) : Bool :=
  decide (0 < p.cyclesPerLine) && decide (0 < p.linesPerFrame) && decide (p.linesPerFrame ≤ 512)

/-- The draw `IoDraw` (R7): chip, register offset and read index to a byte. Free: it has no body. -/
opaque Config.ioDraw : Chip → Nat → Nat → Byte

/-- The draw `DecimalDraw` for A (R7, 41_arith_logic.md R150), by draw index. Free: it has no body. -/
opaque Config.decimalResult : Nat → Byte

/-- The draw `DecimalDraw` for C (R7, R150), by draw index. Free: it has no body. -/
opaque Config.decimalCarry : Nat → Bool

/-- The draw `DecimalDraw` for V (R7, R150), by draw index. Free: it has no body. -/
opaque Config.decimalOverflow : Nat → Bool

end Sys2Proof
end

