-- ==== Sys2Proof/Machine/State.lean ====
section
/-! DEFINITION. The machine's state as plain data (spec 10_state.md): every register, flag, hidden bit, memory and
chip field the spec names, the parameters the spec has the model take as arguments (log 1), and two bookkeeping
fields of the model's own (log 8, 9). The state after reset stands at the end. -/

namespace Sys2Proof.Machine

/-- The six stored flags (R26). B and bit 5 of P have no storage (R31, R32). -/
structure Flags where
  /-- Negative (R34). -/
  n : Bool
  /-- Overflow (R33). -/
  v : Bool
  /-- Decimal (R30). -/
  d : Bool
  /-- Interrupt-disable (R29). -/
  i : Bool
  /-- Zero (R28). -/
  z : Bool
  /-- Carry (R27). -/
  c : Bool
deriving DecidableEq, Repr

/-- The run state (R37): the only CPU state that persists between steps (60_exceptions.md R230). -/
inductive RunState where
  | running
  /-- Stopped at an illegal opcode: the byte, and the address it was fetched from. Only reset leaves it. -/
  | halted (opcode : Byte) (addr : Word)
deriving DecidableEq, Repr

/-- A timer chip (R42). -/
structure Timer where
  /-- Reload value. -/
  latch : Word
  counter : Word
  /-- Start/stop bit of the control byte. -/
  running : Bool
  /-- One-shot (true) or continuous. -/
  oneshot : Bool
  /-- Control-register bits 7, 6, 5, 2, 1 as written; bits 4, 3 and 0 are always 0 here. -/
  ctrlOther : Byte
  irqEnable : Bool
  /-- Set on an enabled underflow, cleared when the status register is read. -/
  pending : Bool
deriving DecidableEq, Repr

/-- The video chip's raster counter (R43). -/
structure Video where
  /-- Current raster line. -/
  raster : BitVec 9
  compare : BitVec 9
  /-- Bits 6..0 last written to register $11; no effect in the core. -/
  ctrl1Low : BitVec 7
  irqEnable : Bool
  pending : Bool
  /-- Cycles since the last line advance. -/
  lineAcc : Nat
deriving DecidableEq, Repr

/-- Bytes by address or offset, one canonical list: addresses strictly rising, no entry equal to what an unlisted
address reads as (Machine/Memory.lean says what that is for RAM and for ROM). -/
abbrev Cells := List Host.Cell

/-- The three read-only images (R41), by offset. -/
structure Roms where
  basic : Cells
  kernal : Cells
  char : Cells
deriving DecidableEq, Repr

/-- The whole machine (R20 to R43). -/
structure State where
  /-- Accumulator A (R21). -/
  a : Byte
  /-- Index register X (R22). -/
  x : Byte
  /-- Index register Y (R23). -/
  y : Byte
  /-- Stack pointer S (R24). -/
  sp : Byte
  /-- Program counter (R25). -/
  pc : Word
  /-- Status flags P (R26). -/
  flags : Flags
  run : RunState
  /-- `nmi_in_service` (R38). -/
  nmiInService : Bool
  /-- `cycles` since the last reset (R39). -/
  cycles : Nat
  /-- The 64 KiB of RAM (R40). -/
  ram : Cells
  rom : Roms
  /-- `T[0]` (R42). -/
  timer0 : Timer
  /-- `T[1]` (R42). -/
  timer1 : Timer
  /-- `VID` (R43). -/
  video : Video
  /-- The parameters of 00_scope.md R7, which no step changes (log 1). -/
  params : Params
  /-- The model's own: the index of the next draw (log 8). -/
  drawIndex : Nat
  /-- The model's own: the addresses the CPU has written since the step began, newest first, which the host's
  watchpoints read (60_exceptions.md R283; log 9). -/
  busWrites : List Word
deriving DecidableEq, Repr

/-- Why the machine stops with a fault: never (R10: "The core has no fault outcome"). The type has no constructor,
so nothing raises one. -/
inductive Fault where
deriving DecidableEq, Repr

/-- Why the model has no meaning for an instruction. -/
inductive Refusal where
  /-- Raised by an arm of `exec` whose instruction has no meaning yet; no arm does. Safe: the run ends. -/
  | notModelled (mnemonic : String)
deriving DecidableEq, Repr

/-- A timer chip after reset (R46). -/
def Timer.reset : Timer :=
  { latch := 0xFFFF#16, counter := 0xFFFF#16, running := false, oneshot := false, ctrlOther := 0x00#8,
    irqEnable := false, pending := false }

/-- The video chip after reset (R46). -/
def Video.reset : Video :=
  { raster := 0, compare := 0, ctrl1Low := 0, irqEnable := false, pending := false, lineAcc := 0 }

/-- The machine right after its power-on reset (R46, R301, R302) with the parameters' defaults (R7), ROM images of
zeros (log 3), `ResetDraw` all zero (log 4) and `InitRam` all zero (log 5). The pc is the reset vector, which those
ROM images hold as $0000. Machine/Reset.lean has the reset of any machine with any draw. -/
def State.reset : State :=
  { a := 0x00#8, x := 0x00#8, y := 0x00#8, sp := 0x00#8, pc := 0x0000#16
    flags := { n := false, v := false, d := false, i := true, z := false, c := false }
    run := .running, nmiInService := false, cycles := 0
    ram := [], rom := { basic := [], kernal := [], char := [] }
    timer0 := Timer.reset, timer1 := Timer.reset, video := Video.reset
    params := Params.default, drawIndex := 0, busWrites := [] }

end Sys2Proof.Machine
end

