-- ==== Sys2Proof/Machine/Chips.lean ====
section
/-! DEFINITION. The chips (spec 60_exceptions.md): the registers of the two timer chips (R250 to R261) and of the
video chip (R265 to R278), their ticks, and the interrupt encoder (R245). Each chip is a function of its own state;
Machine/Ops.lean puts them on the bus. A register or bit the spec leaves unmodelled reads as the draw `IoDraw` at the
index the caller gives (R261, R275, D13). -/

namespace Sys2Proof.Machine

/-- A source's interrupt line, `pending & irq_enable` (R245, R259, R278). -/
def Timer.line (t : Timer) : Bool := t.pending && t.irqEnable

/-- The video chip's interrupt line (R245, R278). -/
def Video.line (v : Video) : Bool := v.pending && v.irqEnable

/-- A status register as it is read: bit 7 the line, bit 0 `pending`, bits 6..1 drawn (R254, R269). -/
def statusByte (line pending : Bool) (draw : Byte) : Byte :=
  BitVec.ofBool line ++ draw.extractLsb' 1 6 ++ BitVec.ofBool pending

/-- The control byte CRA as it is read (R253): `ctrl_other | (oneshot << 3) | running`. -/
def Timer.control (t : Timer) : Byte :=
  t.ctrlOther ||| ((BitVec.ofBool t.oneshot).setWidth 8 <<< 3) ||| (BitVec.ofBool t.running).setWidth 8

/-- The byte a read of a timer register returns (R251 to R254, R260, R261). -/
def Timer.readByte (chip : Chip) (off : BitVec 4) (draw : Nat) (t : Timer) : Byte :=
  if off = 0x4#4 then lo8 t.counter
  else if off = 0x5#4 then hi8 t.counter
  else if off = 0xD#4 then statusByte t.line t.pending (Config.ioDraw chip off.toNat draw)
  else if off = 0xE#4 then t.control
  else Config.ioDraw chip off.toNat draw

/-- What a read of a timer register does to the chip: a read of ICR clears `pending` (R254), no other read has an
effect (R252, R253, R261). -/
def Timer.afterRead (off : BitVec 4) (t : Timer) : Timer :=
  if off = 0xD#4 then { t with pending := false } else t

/-- Whether a read of a timer register takes a draw: ICR and the unmodelled offsets do (R64). -/
def Timer.draws (off : BitVec 4) : Bool := !(off = 0x4#4 || off = 0x5#4 || off = 0xE#4)

/-- A write of `v` to TA_HI: the latch's high byte, and the counter too while the timer is stopped (R255). -/
def Timer.writeHigh (v : Byte) (t : Timer) : Timer :=
  let latch := wordOf v (lo8 t.latch)
  { t with latch := latch, counter := if t.running then t.counter else latch }

/-- A write of `v` to ICR (R256): bit 0 selects the enable, bit 7 is what it becomes. -/
def Timer.writeMask (v : Byte) (t : Timer) : Timer :=
  if v.getLsbD 0 then { t with irqEnable := v.getLsbD 7 } else t

/-- A write of `v` to CRA (R257): start, run mode, the stored bits, and the force load. -/
def Timer.writeControl (v : Byte) (t : Timer) : Timer :=
  { t with
    running := v.getLsbD 0
    oneshot := v.getLsbD 3
    ctrlOther := v &&& 0xE6#8
    counter := if v.getLsbD 4 then t.latch else t.counter }

/-- A write to a timer register (R255 to R257, R260); an unmodelled offset takes no effect (R261). -/
def Timer.write (off : BitVec 4) (v : Byte) (t : Timer) : Timer :=
  if off = 0x4#4 then { t with latch := wordOf (hi8 t.latch) v }
  else if off = 0x5#4 then t.writeHigh v
  else if off = 0xD#4 then t.writeMask v
  else if off = 0xE#4 then t.writeControl v
  else t

/-- `TimerTick` (R258): one CPU cycle. -/
def Timer.tick (t : Timer) : Timer :=
  if t.running = false then t
  else if t.counter - 1 = 0 then
    { t with counter := t.latch, pending := t.irqEnable || t.pending, running := !t.oneshot }
  else { t with counter := t.counter - 1 }

/-- The byte a read of a video register returns (R266 to R270, R275). -/
def Video.readByte (off : BitVec 6) (draw : Nat) (v : Video) : Byte :=
  if off = 0x11#6 then BitVec.ofBool (v.raster.getLsbD 8) ++ v.ctrl1Low
  else if off = 0x12#6 then v.raster.setWidth 8
  else if off = 0x19#6 then statusByte v.line v.pending (Config.ioDraw .video off.toNat draw)
  else if off = 0x1A#6 then (Config.ioDraw .video off.toNat draw).extractLsb' 1 7 ++ BitVec.ofBool v.irqEnable
  else Config.ioDraw .video off.toNat draw

/-- What a read of a video register does to the chip: a read of IRR clears `pending` (R269), no other read has an
effect (R267, R268, R270, R275). -/
def Video.afterRead (off : BitVec 6) (v : Video) : Video :=
  if off = 0x19#6 then { v with pending := false } else v

/-- Whether a read of a video register takes a draw: all do but CTRL1 and RASTER (R64). -/
def Video.draws (off : BitVec 6) : Bool := !(off = 0x11#6 || off = 0x12#6)

/-- A write to a video register (R271 to R275); an unmodelled offset takes no effect. -/
def Video.write (off : BitVec 6) (b : Byte) (v : Video) : Video :=
  if off = 0x11#6 then
    { v with compare := BitVec.ofBool (b.getLsbD 7) ++ v.compare.setWidth 8, ctrl1Low := b.setWidth 7 }
  else if off = 0x12#6 then { v with compare := BitVec.ofBool (v.compare.getLsbD 8) ++ b }
  else if off = 0x19#6 then { v with pending := v.pending && !b.getLsbD 0 }
  else if off = 0x1A#6 then { v with irqEnable := b.getLsbD 0 }
  else v

/-- `LineAdvance` (R276, R277): the next line, and the raster match. -/
def Video.lineAdvance (p : Params) (v : Video) : Video :=
  let raster := BitVec.ofNat 9 ((v.raster.toNat + 1) % p.linesPerFrame)
  { v with raster := raster, pending := v.pending || (decide (raster = v.compare) && v.irqEnable) }

/-- `VideoTick` (R276): one CPU cycle. -/
def Video.tick (p : Params) (v : Video) : Video :=
  if v.lineAcc + 1 = p.cyclesPerLine then Video.lineAdvance p { v with lineAcc := 0 }
  else { v with lineAcc := v.lineAcc + 1 }

/-- The loop of `VideoAdvance` (R276): while a line's cycles are held, take them and advance a line. `fuel` bounds
the turns; a turn takes `CYCLES_PER_LINE` ≥ 1 cycles, so the cycles held are enough of it. -/
def Video.drain (p : Params) : Nat → Video → Video
  | 0, v => v
  | fuel + 1, v =>
    if p.cyclesPerLine ≤ v.lineAcc then
      Video.drain p fuel (Video.lineAdvance p { v with lineAcc := v.lineAcc - p.cyclesPerLine })
    else v

/-- `VideoAdvance` (R276): the batch form of `c` ticks. -/
def Video.advance (p : Params) (c : Nat) (v : Video) : Video :=
  Video.drain p (v.lineAcc + c) { v with lineAcc := v.lineAcc + c }

/-- `n` ticks of a timer (R244). -/
def Timer.ticks : Nat → Timer → Timer
  | 0, t => t
  | n + 1, t => Timer.ticks n t.tick

/-- `n` ticks of the video chip (R244). -/
def Video.ticks (p : Params) : Nat → Video → Video
  | 0, v => v
  | n + 1, v => Video.ticks p n (v.tick p)

/-- `IRQ_line` (R245): the OR of the sources outside `NMI_SOURCES`. -/
def State.irqLine (s : State) : Bool :=
  (!s.params.nmiTimer0 && s.timer0.line) || (!s.params.nmiTimer1 && s.timer1.line) ||
    (!s.params.nmiVideo && s.video.line)

/-- `NMI_line` (R245): the OR of the sources in `NMI_SOURCES`. -/
def State.nmiLine (s : State) : Bool :=
  (s.params.nmiTimer0 && s.timer0.line) || (s.params.nmiTimer1 && s.timer1.line) ||
    (s.params.nmiVideo && s.video.line)

/-- One tick of the logical clock (R244): both timers, then the video chip. -/
def State.tick (s : State) : State :=
  { s with timer0 := s.timer0.tick, timer1 := s.timer1.tick, video := s.video.tick s.params }

/-- `AdvanceChips(c)` (R244). -/
def State.advanceChips : Nat → State → State
  | 0, s => s
  | c + 1, s => State.advanceChips c s.tick

end Sys2Proof.Machine
end

