-- ==== Sys2Proof/Machine/Flags.lean ====
section
/-! DEFINITION. Every flag computation of the spec: the packed status byte (10_state.md R36), setNZ (R34), and the
results with their flags of the arithmetic, compare, bit-test and shift instructions (41_arith_logic.md). -/

namespace Sys2Proof.Machine

/-- `PackP(b)` (R36): N, V, 1, b, D, I, Z, C from bit 7 down. -/
def packP (b : Bool) (f : Flags) : Byte :=
  BitVec.ofBool f.n ++ BitVec.ofBool f.v ++ 1#1 ++ BitVec.ofBool b ++ BitVec.ofBool f.d ++ BitVec.ofBool f.i ++
    BitVec.ofBool f.z ++ BitVec.ofBool f.c

/-- `UnpackP(v)` (R36); bits 5 and 4 are discarded (R31, R32). -/
def unpackP (v : Byte) : Flags :=
  { n := v.getLsbD 7, v := v.getLsbD 6, d := v.getLsbD 3, i := v.getLsbD 2, z := v.getLsbD 1, c := v.getLsbD 0 }

/-- `setNZ(v)` (R34). -/
def setNZ (v : Byte) (f : Flags) : Flags := { f with n := v.getLsbD 7, z := decide (v = 0#8) }

/-- The carry flag as the number it adds (R151). -/
def Flags.carryIn (f : Flags) : Nat := f.c.toNat

/-- A result byte with the C and V that go with it. -/
structure AluResult where
  r : Byte
  c : Bool
  v : Bool
deriving DecidableEq, Repr

/-- `BCDValid(v)` (R150). -/
def bcdValid (v : Byte) : Bool := decide (v.toNat / 16 ≤ 9) && decide (v.toNat % 16 ≤ 9)

/-- Binary ADC (R151). -/
def adcBinary (a m : Byte) (c : Nat) : AluResult :=
  let s := a.toNat + m.toNat + c
  let r := BitVec.ofNat 8 s
  { r := r, c := decide (255 < s), v := ((a ^^^ r) &&& (m ^^^ r)).getLsbD 7 }

/-- Decimal ADC on two BCD operands (R151): the result and C. -/
def adcDecimal (a m : Byte) (c : Nat) : Byte × Bool :=
  let lo := a.toNat % 16 + m.toNat % 16 + c
  let lo := if 9 < lo then lo + 6 else lo
  let hi := a.toNat / 16 + m.toNat / 16 + (if 15 < lo then 1 else 0)
  let hi := if 9 < hi then hi + 6 else hi
  (BitVec.ofNat 8 (hi * 16 + lo % 16), decide (15 < hi))

/-- Binary SBC (R152). -/
def sbcBinary (a m : Byte) (c : Nat) : AluResult :=
  let s := a.toNat + (m ^^^ 0xFF#8).toNat + c
  let r := BitVec.ofNat 8 s
  { r := r, c := decide (255 < s), v := ((a ^^^ m) &&& (a ^^^ r)).getLsbD 7 }

/-- Decimal SBC on two BCD operands (R152): the result and C. -/
def sbcDecimal (a m : Byte) (c : Nat) : Byte × Bool :=
  let b : Int := 1 - c
  let lo : Int := (a.toNat % 16 : Nat) - (m.toNat % 16 : Nat) - b
  let hi : Int := (a.toNat / 16 : Nat) - (m.toNat / 16 : Nat)
  let hi := if lo < 0 then hi - 1 else hi
  let lo := if lo < 0 then lo + 10 else lo
  let hi := if hi < 0 then hi + 10 else hi
  (BitVec.ofInt 8 (hi * 16 + lo), decide (0 ≤ (a.toNat : Int) - m.toNat - b))

/-- The draw `DecimalDraw` for all of A, C and V (R150), at a draw index (log 7). -/
def decimalDraw (draw : Nat) : AluResult :=
  { r := Config.decimalResult draw, c := Config.decimalCarry draw, v := Config.decimalOverflow draw }

/-- ADC (R151): binary, decimal with V drawn, or drawn, by D and the operands. -/
def adcResult (f : Flags) (a m : Byte) (draw : Nat) : AluResult :=
  if f.d = false then adcBinary a m f.carryIn
  else if bcdValid a && bcdValid m then
    { r := (adcDecimal a m f.carryIn).1, c := (adcDecimal a m f.carryIn).2, v := Config.decimalOverflow draw }
  else decimalDraw draw

/-- SBC (R152): binary, decimal with V drawn, or drawn, by D and the operands. -/
def sbcResult (f : Flags) (a m : Byte) (draw : Nat) : AluResult :=
  if f.d = false then sbcBinary a m f.carryIn
  else if bcdValid a && bcdValid m then
    { r := (sbcDecimal a m f.carryIn).1, c := (sbcDecimal a m f.carryIn).2, v := Config.decimalOverflow draw }
  else decimalDraw draw

/-- The flags after ADC or SBC (R151, R152): C and V of the result, N and Z from the final byte. -/
def aluFlags (res : AluResult) (f : Flags) : Flags := setNZ res.r { f with c := res.c, v := res.v }

/-- The flags after a comparison of `r` with `m` (R157 to R159). -/
def compareFlags (r m : Byte) (f : Flags) : Flags := setNZ (r - m) { f with c := decide (m.toNat ≤ r.toNat) }

/-- The flags after BIT (R156). -/
def bitFlags (a m : Byte) (f : Flags) : Flags :=
  { f with z := decide (a &&& m = 0#8), n := m.getLsbD 7, v := m.getLsbD 6 }

/-- INC's byte and flags (R160), and those of INX and INY (R162, R163). -/
def incByte (v : Byte) (f : Flags) : Byte × Flags := (v + 1#8, setNZ (v + 1#8) f)

/-- DEC's byte and flags (R161), and those of DEX and DEY (R164, R165). -/
def decByte (v : Byte) (f : Flags) : Byte × Flags := (v - 1#8, setNZ (v - 1#8) f)

/-- The byte and flags of a shift with carry out `c` (R166 to R169). -/
def shifted (r : Byte) (c : Bool) (f : Flags) : Byte × Flags := (r, setNZ r { f with c := c })

/-- ASL's byte and flags (R166). -/
def aslByte (v : Byte) (f : Flags) : Byte × Flags := shifted (v <<< 1) (v.getLsbD 7) f

/-- LSR's byte and flags (R167). -/
def lsrByte (v : Byte) (f : Flags) : Byte × Flags := shifted (v >>> 1) (v.getLsbD 0) f

/-- ROL's byte and flags (R168): the old C enters bit 0. -/
def rolByte (v : Byte) (f : Flags) : Byte × Flags :=
  shifted ((v <<< 1) ||| (BitVec.ofBool f.c).setWidth 8) (v.getLsbD 7) f

/-- ROR's byte and flags (R169): the old C enters bit 7. -/
def rorByte (v : Byte) (f : Flags) : Byte × Flags :=
  shifted ((v >>> 1) ||| ((BitVec.ofBool f.c).setWidth 8 <<< 7)) (v.getLsbD 0) f

end Sys2Proof.Machine
end

