-- ==== Sys2Proof/Machine/Memory.lean ====
section
/-! DEFINITION. Memory as one canonical list of cells (spec 10_state.md R40, R41): reading, writing, the canonical
form, and what an unlisted byte of RAM and of ROM reads as. The bus (Machine/Ops.lean) decides which memory an
access reaches; here are only the memories themselves. -/

namespace Sys2Proof.Machine

/-- The byte at `a`; `unlisted` says what an address with no cell reads as. -/
def Cells.read (unlisted : Nat → Byte) : Cells → Nat → Byte
  | [], a => unlisted a
  | (k, v) :: rest, a => if a = k then v else Cells.read unlisted rest a

/-- The cells after writing `v` at `a`: the canonical form is kept, so that a byte equal to what an unlisted address
reads as has no cell. -/
def Cells.write (unlisted : Nat → Byte) : Cells → Nat → Byte → Cells
  | [], a, v => if v = unlisted a then [] else [(a, v)]
  | (k, w) :: rest, a, v =>
    if a < k then (if v = unlisted a then (k, w) :: rest else (a, v) :: (k, w) :: rest)
    else if a = k then (if v = unlisted a then rest else (a, v) :: rest)
    else (k, w) :: Cells.write unlisted rest a v

/-- The canonical form from address `lo` on: addresses strictly rising, below `size`, and no cell equal to what its
address reads as unlisted. -/
def Cells.wfFrom (unlisted : Nat → Byte) (size : Nat) : Nat → Cells → Bool
  | _, [] => true
  | lo, (k, v) :: rest =>
    decide (lo ≤ k) && decide (k < size) && decide (v ≠ unlisted k) && Cells.wfFrom unlisted size (k + 1) rest

/-- The canonical form of a memory of `size` bytes. -/
def Cells.wf (unlisted : Nat → Byte) (size : Nat) (m : Cells) : Bool := Cells.wfFrom unlisted size 0 m

/-- What an unlisted byte of RAM reads as: the reset contents, which the spec gives for bits 2..0 of $0001 (R46: %111)
and leaves open elsewhere; there it is 0 (log 5). -/
def ramUnlisted (a : Nat) : Byte := if a = 1 then 0x07#8 else 0x00#8

/-- What an unlisted byte of a ROM image reads as (log 3). -/
def romUnlisted (_ : Nat) : Byte := 0x00#8

/-- RAM holds 65,536 bytes (R40). -/
def ramSize : Nat := 65536

/-- `ROM_BASIC` holds 8,192 bytes (R41). -/
def basicSize : Nat := 8192

/-- `ROM_KERNAL` holds 8,192 bytes (R41). -/
def kernalSize : Nat := 8192

/-- `ROM_CHAR` holds 4,096 bytes (R41). -/
def charSize : Nat := 4096

/-- RAM is in canonical form. -/
def Memory.wf (m : Cells) : Bool := Cells.wf ramUnlisted ramSize m

/-- The three images are in canonical form and of their sizes (R41). -/
def Roms.wf (r : Roms) : Bool :=
  Cells.wf romUnlisted basicSize r.basic && Cells.wf romUnlisted kernalSize r.kernal &&
    Cells.wf romUnlisted charSize r.char

/-- The RAM byte at an address, whatever is mapped there (R40). -/
def State.ramByte (s : State) (a : Word) : Byte := Cells.read ramUnlisted s.ram a.toNat

/-- The machine with one RAM byte written, whatever is mapped there (R40). -/
def State.setRamByte (s : State) (a : Word) (v : Byte) : State :=
  { s with ram := Cells.write ramUnlisted s.ram a.toNat v }

/-- `ROM_BASIC[off]` (R41, R67). -/
def State.basicByte (s : State) (off : Nat) : Byte := Cells.read romUnlisted s.rom.basic off

/-- `ROM_KERNAL[off]` (R41, R67). -/
def State.kernalByte (s : State) (off : Nat) : Byte := Cells.read romUnlisted s.rom.kernal off

/-- `ROM_CHAR[off]` (R41, R67). -/
def State.charByte (s : State) (off : Nat) : Byte := Cells.read romUnlisted s.rom.char off

/-- The cells of consecutive bytes from address `a` on, in canonical form. -/
def Cells.ofBytes (unlisted : Nat → Byte) : Nat → List Byte → Cells
  | _, [] => []
  | a, v :: rest =>
    if v = unlisted a then Cells.ofBytes unlisted (a + 1) rest
    else (a, v) :: Cells.ofBytes unlisted (a + 1) rest

end Sys2Proof.Machine
end

