-- ==== Sys2Proof/Machine/Ops.lean ====
section
/-! DEFINITION. The operations every meaning is built of: register updates, the address bus with its bank decode
(spec 20_memory.md R52 to R59), the stack (00_scope.md R9, 10_state.md R24), taking an interrupt (60_exceptions.md
R231 to R237) and returning from one (R202). Every access the core makes goes through `busRead` and `busWrite`. -/

namespace Sys2Proof.Machine

/-- Every meaning answers one of these. -/
abbrev Out := Host.Outcome State Fault Refusal

/-- Write A (R21). -/
def State.setA (s : State) (v : Byte) : State := { s with a := v }
/-- Write X (R22). -/
def State.setX (s : State) (v : Byte) : State := { s with x := v }
/-- Write Y (R23). -/
def State.setY (s : State) (v : Byte) : State := { s with y := v }
/-- Write S (R24). -/
def State.setSp (s : State) (v : Byte) : State := { s with sp := v }
/-- Write PC (R25). -/
def State.setPc (s : State) (v : Word) : State := { s with pc := v }
/-- Write the flags (R26). -/
def State.setFlags (s : State) (f : Flags) : State := { s with flags := f }
/-- Write `nmi_in_service` (R38). -/
def State.setNmiInService (s : State) (v : Bool) : State := { s with nmiInService := v }
/-- Count the cycles of a step (R39, R231); the chips advance by as many when the step ends (Machine/Step.lean). -/
def State.addCycles (s : State) (c : Nat) : State := { s with cycles := s.cycles + c }
/-- The next draw index, after a draw was taken (log 8). -/
def State.nextDraw (s : State) : State := { s with drawIndex := s.drawIndex + 1 }

/-- The end of an instruction that writes no target (R25, R120 (a), (d)): PC past its `len` bytes, `c` cycles. -/
def State.finish (s : State) (len c : Nat) : State := (s.setPc (s.pc + BitVec.ofNat 16 len)).addCycles c

/-- The end of a control transfer (R25): PC at the target, `c` cycles. -/
def State.jump (s : State) (target : Word) (c : Nat) : State := (s.setPc target).addCycles c

/-- What an access reaches (R54). -/
inductive Region where
  | ram
  | basicRom
  | kernalRom
  | charRom
  | video
  | timer0
  | timer1
deriving DecidableEq, Repr

/-- LORAM, bit 0 of RAM[$0001] (R52). -/
def State.loram (s : State) : Bool := (s.ramByte 0x0001#16).getLsbD 0
/-- HIRAM, bit 1 of RAM[$0001] (R52). -/
def State.hiram (s : State) : Bool := (s.ramByte 0x0001#16).getLsbD 1
/-- CHAREN, bit 2 of RAM[$0001] (R52). -/
def State.charen (s : State) : Bool := (s.ramByte 0x0001#16).getLsbD 2

/-- `region(a)` for given bank bits (R54). -/
def region (a : Word) (loram hiram charen : Bool) : Region :=
  if 0xA000 ≤ a.toNat ∧ a.toNat ≤ 0xBFFF ∧ loram = true ∧ hiram = true then .basicRom
  else if 0xE000 ≤ a.toNat ∧ hiram = true then .kernalRom
  else if 0xD000 ≤ a.toNat ∧ a.toNat ≤ 0xDFFF ∧ (loram = true ∨ hiram = true) then
    if charen = false then .charRom
    else if a.toNat ≤ 0xD3FF then .video
    else if 0xDC00 ≤ a.toNat ∧ a.toNat ≤ 0xDCFF then .timer0
    else if 0xDD00 ≤ a.toNat ∧ a.toNat ≤ 0xDDFF then .timer1
    else .ram
  else .ram

/-- The region an access reaches with the bank bits as they stand (R53). -/
def State.regionOf (s : State) (a : Word) : Region := region a s.loram s.hiram s.charen

/-- A video register's offset, `a[5:0]` (R58). -/
def videoOff (a : Word) : BitVec 6 := a.setWidth 6

/-- A timer register's offset, `a[3:0]` (R58). -/
def timerOff (a : Word) : BitVec 4 := a.setWidth 4

/-- The byte a bus read returns (R56). -/
def State.peek (s : State) (a : Word) : Byte :=
  match s.regionOf a with
  | .ram => s.ramByte a
  | .basicRom => s.basicByte (a.toNat - 0xA000)
  | .kernalRom => s.kernalByte (a.toNat - 0xE000)
  | .charRom => s.charByte (a.toNat - 0xD000)
  | .video => s.video.readByte (videoOff a) s.drawIndex
  | .timer0 => s.timer0.readByte .timer0 (timerOff a) s.drawIndex
  | .timer1 => s.timer1.readByte .timer1 (timerOff a) s.drawIndex

/-- The draw index after a read, which takes a draw or not. -/
def State.drawIf (s : State) (taken : Bool) : State := if taken then s.nextDraw else s

/-- What a bus read does to the machine (R63, R64): nothing in RAM and ROM, the read effect of a chip's register. -/
def State.afterRead (s : State) (a : Word) : State :=
  match s.regionOf a with
  | .ram | .basicRom | .kernalRom | .charRom => s
  | .video => ({ s with video := s.video.afterRead (videoOff a) }).drawIf (Video.draws (videoOff a))
  | .timer0 => ({ s with timer0 := s.timer0.afterRead (timerOff a) }).drawIf (Timer.draws (timerOff a))
  | .timer1 => ({ s with timer1 := s.timer1.afterRead (timerOff a) }).drawIf (Timer.draws (timerOff a))

/-- `Read(a)` (R9, R56): the byte, and the machine after the read. -/
def State.busRead (s : State) (a : Word) : Byte × State := (s.peek a, s.afterRead a)

/-- What a write to region `r` does (R57): RAM takes the byte, a mapped ROM ignores it, a chip's register takes it. -/
def State.writeRegion (s : State) (r : Region) (a : Word) (v : Byte) : State :=
  match r with
  | .ram => s.setRamByte a v
  | .basicRom | .kernalRom | .charRom => s
  | .video => { s with video := s.video.write (videoOff a) v }
  | .timer0 => { s with timer0 := s.timer0.write (timerOff a) v }
  | .timer1 => { s with timer1 := s.timer1.write (timerOff a) v }

/-- `Write(a, v)` (R9, R57). The address joins the step's write addresses whatever it reaches (R283, log 9). -/
def State.busWrite (s : State) (a : Word) (v : Byte) : State :=
  let t := s.writeRegion (s.regionOf a) a v
  { t with busWrites := a :: t.busWrites }

/-- `Read16(a)` (R9): the byte at `a` first, then the one at `a +16 1`; little-endian (R60). -/
def State.read16 (s : State) (a : Word) : Word × State :=
  let lo := s.busRead a
  let hi := lo.2.busRead (a + 1#16)
  (wordOf hi.1 lo.1, hi.2)

/-- The stack address `$0100 | S` (R24). -/
def stackAddr (sp : Byte) : Word := wordOf 0x01#8 sp

/-- `Push(v)` (R9): write at `$0100 | S`, then S down by one, modulo 256. -/
def State.push (s : State) (v : Byte) : State := (s.busWrite (stackAddr s.sp) v).setSp (s.sp - 1#8)

/-- `Pull()` (R9): S up by one, modulo 256, then read at `$0100 | S`. -/
def State.pull (s : State) : Byte × State := (s.setSp (s.sp + 1#8)).busRead (stackAddr (s.sp + 1#8))

/-- Push a 16-bit value, high byte first, so that it lies little-endian on the stack (R60, R200). -/
def State.pushWord (s : State) (w : Word) : State := (s.push (hi8 w)).push (lo8 w)

/-- Pull a 16-bit value, low byte first (R201, R202). -/
def State.pullWord (s : State) : Word × State :=
  let lo := s.pull
  let hi := lo.2.pull
  (wordOf hi.1 lo.1, hi.2)

/-- The NMI vector's address (R66, R235). -/
def nmiVector : Word := 0xFFFA#16
/-- The reset vector's address (R66, R302). -/
def resetVector : Word := 0xFFFC#16
/-- The IRQ and BRK vector's address (R66, R235). -/
def irqVector : Word := 0xFFFE#16

/-- Taking an exception, shared by NMI, IRQ and BRK (R235, R203): push the return address and the status byte with
the given B, set I, load PC from the vector. D is unchanged (D24). -/
def State.enter (s : State) (ret : Word) (b : Bool) (vec : Word) : State :=
  let s := (s.pushWord ret).push (packP b s.flags)
  let s := s.setFlags { s.flags with i := true }
  let target := s.read16 vec
  target.2.setPc target.1

/-- Return from an interrupt (R202, R242): the status byte, then PC; `nmi_in_service` is cleared (R237). -/
def State.leave (s : State) : State :=
  let p := s.pull
  let s := p.2.setFlags (unpackP p.1)
  let ret := s.pullWord
  (ret.2.setPc ret.1).setNmiInService false

/-- The cycles of an interrupt entry (R236). -/
def entryCycles : Nat := 7

/-- Whether the sampling point takes the NMI (R233). -/
def State.takesNmi (s : State) : Bool := s.nmiLine && !s.nmiInService

/-- Whether the sampling point takes the IRQ (R232): the NMI goes first (R234). -/
def State.takesIrq (s : State) : Bool := !s.takesNmi && s.irqLine && !s.flags.i

/-- The interrupt entry of a sampling point, if one is taken (R231, R234 to R237). -/
def State.interruptEntry (s : State) : Option State :=
  if s.takesNmi then some (((s.enter s.pc false nmiVector).setNmiInService true).addCycles entryCycles)
  else if s.takesIrq then some ((s.enter s.pc false irqVector).addCycles entryCycles)
  else none

/-- The halt at an illegal opcode fetched at PC (R239). -/
def State.halt (s : State) (op : Byte) : State := { s with run := .halted op s.pc }

/-- The start of a step in the Running state: no write has been made yet (log 9). -/
def State.beginStep (s : State) : State := { s with busWrites := [] }

/-- The end of a step that took `s` to `t` (R231, R244): the chips advance by the cycles the step counted. -/
def State.endStep (s t : State) : State := State.advanceChips (t.cycles - s.cycles) t

end Sys2Proof.Machine
end

