-- ==== Sys2Proof/Machine/Operands.lean ====
section
/-! DEFINITION. Every operand form of the spec: effective addresses with their pointer reads and page crossings
(30_encoding.md R95 to R104), and the shapes of an instruction over an operand (reading, storing, read-modify-write on memory and on A,
implied, branching), with the page-crossing and branch extras (R111, R112). -/

namespace Sys2Proof.Machine

/-- A byte as a 16-bit number, `zext_16(b)` (R8). -/
def zext16 (b : Byte) : Word := wordOf 0x00#8 b

/-- A byte as a two's-complement offset, `sext_8(b)` (R8), at the width of the pc. -/
def sext16 (b : Byte) : Word := b.signExtend 16

/-- Two addresses lie on different pages: their bits 15..8 differ (R99, R104). -/
def crosses (a b : Word) : Bool := decide (hi8 a ≠ hi8 b)

/-- An effective address, whether indexing crossed a page, and the machine after the mode's pointer reads. -/
structure Ea where
  addr : Word
  cross : Bool
  st : State
deriving DecidableEq, Repr

/-- A pointer in page zero (R102, R103): the byte at `z`, then the byte at `z +8 1`, both in page zero. -/
def State.readPointer (s : State) (z : Byte) : Word × State :=
  let lo := s.busRead (zext16 z)
  let hi := lo.2.busRead (zext16 (z + 1#8))
  (wordOf hi.1 lo.1, hi.2)

/-- An address indexed by a register, at 16 bits (R99, R100, R103). -/
def indexed (base : Word) (index : Byte) (s : State) : Ea :=
  let ea := base + zext16 index
  { addr := ea, cross := crosses ea base, st := s }

/-- `EA` by mode (R95 to R100, R102, R103, R120 (b)). -/
def resolve (m : MemMode) (s : State) : Ea :=
  match m with
  | .zp b => { addr := zext16 b, cross := false, st := s }
  | .zpx b => { addr := zext16 (b + s.x), cross := false, st := s }
  | .zpy b => { addr := zext16 (b + s.y), cross := false, st := s }
  | .abs w => { addr := w, cross := false, st := s }
  | .absx w => indexed w s.x s
  | .absy w => indexed w s.y s
  | .izx b =>
    let p := s.readPointer (b + s.x)
    { addr := p.1, cross := false, st := p.2 }
  | .izy b =>
    let p := s.readPointer b
    indexed p.1 s.y p.2

/-- A source operand's byte, whether its address crossed a page, and the machine after reading it. -/
structure Operand where
  val : Byte
  cross : Bool
  st : State
deriving DecidableEq, Repr

/-- `Operand(mode)` (R120 (c)): the operand byte, or the byte at EA, read once. -/
def operand (o : Src) (s : State) : Operand :=
  match o with
  | .imm b => { val := b, cross := false, st := s }
  | .mem m =>
    let e := resolve m s
    let r := e.st.busRead e.addr
    { val := r.1, cross := e.cross, st := r.2 }

/-- The pointer of `JMP (abs)` (R101): the high byte comes from the same page as the low byte. -/
def State.readIndirect (s : State) (ptr : Word) : Word × State :=
  let lo := s.busRead ptr
  let hi := lo.2.busRead (wordOf (hi8 ptr) (lo8 ptr + 1#8))
  (wordOf hi.1 lo.1, hi.2)

/-- An instruction that reads an operand and works on registers and flags (R120): one more cycle where indexing
crossed a page (R111), which only ABSX, ABSY and IZY can. `len` and `base` are the opcode's bytes and base cycles. -/
def readOp (f : Byte → State → State) (o : Src) (len base : Nat) (s : State) : Out :=
  let r := operand o s
  .next ((f r.val r.st).finish len (base + r.cross.toNat))

/-- A store of a register (R124 to R126): no read of EA, no page-crossing extra. -/
def storeOp (reg : State → Byte) (m : MemMode) (len base : Nat) (s : State) : Out :=
  let e := resolve m s
  .next ((e.st.busWrite e.addr (reg e.st)).finish len base)

/-- A read-modify-write of memory (R160, R161, R166 to R169): one read, one write, then the flags. -/
def modifyOp (f : Byte → Flags → Byte × Flags) (m : MemMode) (len base : Nat) (s : State) : Out :=
  let e := resolve m s
  let r := e.st.busRead e.addr
  let w := f r.1 r.2.flags
  .next (((r.2.busWrite e.addr w.1).setFlags w.2).finish len base)

/-- A shift of A (R93, R166 to R169). -/
def modifyAcc (f : Byte → Flags → Byte × Flags) (len base : Nat) (s : State) : Out :=
  let w := f s.a s.flags
  .next (((s.setA w.1).setFlags w.2).finish len base)

/-- An implied instruction on registers, flags and the stack (R92). -/
def impliedOp (f : State → State) (len base : Nat) (s : State) : Out := .next ((f s).finish len base)

/-- `Branch(cond)` (42_control_system.md R190, R112). -/
def branchOp (cond : State → Bool) (off : Byte) (s : State) : Out :=
  let next := s.pc + 2#16
  let target := next + sext16 off
  if cond s then .next (s.jump target (3 + (crosses target next).toNat)) else .next (s.jump next 2)

end Sys2Proof.Machine
end

