-- ==== Sys2Proof/Machine/LoadStore.lean ====
section
/-! DEFINITION. Loads and stores (spec 40_load_store_transfer.md R121 to R126). -/

namespace Sys2Proof.Machine

/-- `A <- M; setNZ(M)` (R121). -/
def loadA (m : Byte) (s : State) : State := (s.setA m).setFlags (setNZ m s.flags)
/-- `X <- M; setNZ(M)` (R122). -/
def loadX (m : Byte) (s : State) : State := (s.setX m).setFlags (setNZ m s.flags)
/-- `Y <- M; setNZ(M)` (R123). -/
def loadY (m : Byte) (s : State) : State := (s.setY m).setFlags (setNZ m s.flags)

/-- LDA ($nn,X) ($A1, R121, R102). -/
def execLdaIzx (b : Byte) (s : State) : Out := readOp loadA (.mem (.izx b)) 2 6 s
/-- LDA $nn ($A5, R121, R95). -/
def execLdaZp (b : Byte) (s : State) : Out := readOp loadA (.mem (.zp b)) 2 3 s
/-- LDA #$nn ($A9, R121, R94). -/
def execLdaImm (b : Byte) (s : State) : Out := readOp loadA (.imm b) 2 2 s
/-- LDA $nnnn ($AD, R121, R98). -/
def execLdaAbs (w : Word) (s : State) : Out := readOp loadA (.mem (.abs w)) 3 4 s
/-- LDA ($nn),Y ($B1, R121, R103). -/
def execLdaIzy (b : Byte) (s : State) : Out := readOp loadA (.mem (.izy b)) 2 5 s
/-- LDA $nn,X ($B5, R121, R96). -/
def execLdaZpx (b : Byte) (s : State) : Out := readOp loadA (.mem (.zpx b)) 2 4 s
/-- LDA $nnnn,Y ($B9, R121, R100). -/
def execLdaAbsy (w : Word) (s : State) : Out := readOp loadA (.mem (.absy w)) 3 4 s
/-- LDA $nnnn,X ($BD, R121, R99). -/
def execLdaAbsx (w : Word) (s : State) : Out := readOp loadA (.mem (.absx w)) 3 4 s

/-- LDX #$nn ($A2, R122, R94). -/
def execLdxImm (b : Byte) (s : State) : Out := readOp loadX (.imm b) 2 2 s
/-- LDX $nn ($A6, R122, R95). -/
def execLdxZp (b : Byte) (s : State) : Out := readOp loadX (.mem (.zp b)) 2 3 s
/-- LDX $nnnn ($AE, R122, R98). -/
def execLdxAbs (w : Word) (s : State) : Out := readOp loadX (.mem (.abs w)) 3 4 s
/-- LDX $nn,Y ($B6, R122, R97). -/
def execLdxZpy (b : Byte) (s : State) : Out := readOp loadX (.mem (.zpy b)) 2 4 s
/-- LDX $nnnn,Y ($BE, R122, R100). -/
def execLdxAbsy (w : Word) (s : State) : Out := readOp loadX (.mem (.absy w)) 3 4 s

/-- LDY #$nn ($A0, R123, R94). -/
def execLdyImm (b : Byte) (s : State) : Out := readOp loadY (.imm b) 2 2 s
/-- LDY $nn ($A4, R123, R95). -/
def execLdyZp (b : Byte) (s : State) : Out := readOp loadY (.mem (.zp b)) 2 3 s
/-- LDY $nnnn ($AC, R123, R98). -/
def execLdyAbs (w : Word) (s : State) : Out := readOp loadY (.mem (.abs w)) 3 4 s
/-- LDY $nn,X ($B4, R123, R96). -/
def execLdyZpx (b : Byte) (s : State) : Out := readOp loadY (.mem (.zpx b)) 2 4 s
/-- LDY $nnnn,X ($BC, R123, R99). -/
def execLdyAbsx (w : Word) (s : State) : Out := readOp loadY (.mem (.absx w)) 3 4 s

/-- STA ($nn,X) ($81, R124, R102). -/
def execStaIzx (b : Byte) (s : State) : Out := storeOp State.a (.izx b) 2 6 s
/-- STA $nn ($85, R124, R95). -/
def execStaZp (b : Byte) (s : State) : Out := storeOp State.a (.zp b) 2 3 s
/-- STA $nnnn ($8D, R124, R98). -/
def execStaAbs (w : Word) (s : State) : Out := storeOp State.a (.abs w) 3 4 s
/-- STA ($nn),Y ($91, R124, R103). -/
def execStaIzy (b : Byte) (s : State) : Out := storeOp State.a (.izy b) 2 6 s
/-- STA $nn,X ($95, R124, R96). -/
def execStaZpx (b : Byte) (s : State) : Out := storeOp State.a (.zpx b) 2 4 s
/-- STA $nnnn,Y ($99, R124, R100). -/
def execStaAbsy (w : Word) (s : State) : Out := storeOp State.a (.absy w) 3 5 s
/-- STA $nnnn,X ($9D, R124, R99). -/
def execStaAbsx (w : Word) (s : State) : Out := storeOp State.a (.absx w) 3 5 s

/-- STX $nn ($86, R125, R95). -/
def execStxZp (b : Byte) (s : State) : Out := storeOp State.x (.zp b) 2 3 s
/-- STX $nnnn ($8E, R125, R98). -/
def execStxAbs (w : Word) (s : State) : Out := storeOp State.x (.abs w) 3 4 s
/-- STX $nn,Y ($96, R125, R97). -/
def execStxZpy (b : Byte) (s : State) : Out := storeOp State.x (.zpy b) 2 4 s

/-- STY $nn ($84, R126, R95). -/
def execStyZp (b : Byte) (s : State) : Out := storeOp State.y (.zp b) 2 3 s
/-- STY $nnnn ($8C, R126, R98). -/
def execStyAbs (w : Word) (s : State) : Out := storeOp State.y (.abs w) 3 4 s
/-- STY $nn,X ($94, R126, R96). -/
def execStyZpx (b : Byte) (s : State) : Out := storeOp State.y (.zpx b) 2 4 s

end Sys2Proof.Machine
end

