-- ==== Sys2Proof/Machine/Arith.lean ====
section
/-! DEFINITION. Addition, subtraction, comparison, increment and decrement (spec 41_arith_logic.md R151, R152, R157 to R165). -/

namespace Sys2Proof.Machine

/-- A takes the result, the flags follow (R151, R152). In decimal mode a draw was taken (R150). -/
def applyAlu (res : AluResult) (s : State) : State :=
  ((s.setA res.r).setFlags (aluFlags res s.flags)).drawIf s.flags.d

/-- ADC on its operand (R151). -/
def addA (m : Byte) (s : State) : State := applyAlu (adcResult s.flags s.a m s.drawIndex) s
/-- SBC on its operand (R152). -/
def subA (m : Byte) (s : State) : State := applyAlu (sbcResult s.flags s.a m s.drawIndex) s
/-- CMP on its operand (R157). -/
def compareA (m : Byte) (s : State) : State := s.setFlags (compareFlags s.a m s.flags)
/-- CPX on its operand (R158). -/
def compareX (m : Byte) (s : State) : State := s.setFlags (compareFlags s.x m s.flags)
/-- CPY on its operand (R159). -/
def compareY (m : Byte) (s : State) : State := s.setFlags (compareFlags s.y m s.flags)
/-- X changed by `incByte` or `decByte` (R162, R164). -/
def stepX (f : Byte → Flags → Byte × Flags) (s : State) : State :=
  (s.setX (f s.x s.flags).1).setFlags (f s.x s.flags).2
/-- Y changed by `incByte` or `decByte` (R163, R165). -/
def stepY (f : Byte → Flags → Byte × Flags) (s : State) : State :=
  (s.setY (f s.y s.flags).1).setFlags (f s.y s.flags).2

/-- ADC ($nn,X) ($61, R151, R102). -/
def execAdcIzx (b : Byte) (s : State) : Out := readOp addA (.mem (.izx b)) 2 6 s
/-- ADC $nn ($65, R151, R95). -/
def execAdcZp (b : Byte) (s : State) : Out := readOp addA (.mem (.zp b)) 2 3 s
/-- ADC #$nn ($69, R151, R94). -/
def execAdcImm (b : Byte) (s : State) : Out := readOp addA (.imm b) 2 2 s
/-- ADC $nnnn ($6D, R151, R98). -/
def execAdcAbs (w : Word) (s : State) : Out := readOp addA (.mem (.abs w)) 3 4 s
/-- ADC ($nn),Y ($71, R151, R103). -/
def execAdcIzy (b : Byte) (s : State) : Out := readOp addA (.mem (.izy b)) 2 5 s
/-- ADC $nn,X ($75, R151, R96). -/
def execAdcZpx (b : Byte) (s : State) : Out := readOp addA (.mem (.zpx b)) 2 4 s
/-- ADC $nnnn,Y ($79, R151, R100). -/
def execAdcAbsy (w : Word) (s : State) : Out := readOp addA (.mem (.absy w)) 3 4 s
/-- ADC $nnnn,X ($7D, R151, R99). -/
def execAdcAbsx (w : Word) (s : State) : Out := readOp addA (.mem (.absx w)) 3 4 s

/-- SBC ($nn,X) ($E1, R152, R102). -/
def execSbcIzx (b : Byte) (s : State) : Out := readOp subA (.mem (.izx b)) 2 6 s
/-- SBC $nn ($E5, R152, R95). -/
def execSbcZp (b : Byte) (s : State) : Out := readOp subA (.mem (.zp b)) 2 3 s
/-- SBC #$nn ($E9, R152, R94). -/
def execSbcImm (b : Byte) (s : State) : Out := readOp subA (.imm b) 2 2 s
/-- SBC $nnnn ($ED, R152, R98). -/
def execSbcAbs (w : Word) (s : State) : Out := readOp subA (.mem (.abs w)) 3 4 s
/-- SBC ($nn),Y ($F1, R152, R103). -/
def execSbcIzy (b : Byte) (s : State) : Out := readOp subA (.mem (.izy b)) 2 5 s
/-- SBC $nn,X ($F5, R152, R96). -/
def execSbcZpx (b : Byte) (s : State) : Out := readOp subA (.mem (.zpx b)) 2 4 s
/-- SBC $nnnn,Y ($F9, R152, R100). -/
def execSbcAbsy (w : Word) (s : State) : Out := readOp subA (.mem (.absy w)) 3 4 s
/-- SBC $nnnn,X ($FD, R152, R99). -/
def execSbcAbsx (w : Word) (s : State) : Out := readOp subA (.mem (.absx w)) 3 4 s

/-- CMP ($nn,X) ($C1, R157, R102). -/
def execCmpIzx (b : Byte) (s : State) : Out := readOp compareA (.mem (.izx b)) 2 6 s
/-- CMP $nn ($C5, R157, R95). -/
def execCmpZp (b : Byte) (s : State) : Out := readOp compareA (.mem (.zp b)) 2 3 s
/-- CMP #$nn ($C9, R157, R94). -/
def execCmpImm (b : Byte) (s : State) : Out := readOp compareA (.imm b) 2 2 s
/-- CMP $nnnn ($CD, R157, R98). -/
def execCmpAbs (w : Word) (s : State) : Out := readOp compareA (.mem (.abs w)) 3 4 s
/-- CMP ($nn),Y ($D1, R157, R103). -/
def execCmpIzy (b : Byte) (s : State) : Out := readOp compareA (.mem (.izy b)) 2 5 s
/-- CMP $nn,X ($D5, R157, R96). -/
def execCmpZpx (b : Byte) (s : State) : Out := readOp compareA (.mem (.zpx b)) 2 4 s
/-- CMP $nnnn,Y ($D9, R157, R100). -/
def execCmpAbsy (w : Word) (s : State) : Out := readOp compareA (.mem (.absy w)) 3 4 s
/-- CMP $nnnn,X ($DD, R157, R99). -/
def execCmpAbsx (w : Word) (s : State) : Out := readOp compareA (.mem (.absx w)) 3 4 s

/-- CPX #$nn ($E0, R158, R94). -/
def execCpxImm (b : Byte) (s : State) : Out := readOp compareX (.imm b) 2 2 s
/-- CPX $nn ($E4, R158, R95). -/
def execCpxZp (b : Byte) (s : State) : Out := readOp compareX (.mem (.zp b)) 2 3 s
/-- CPX $nnnn ($EC, R158, R98). -/
def execCpxAbs (w : Word) (s : State) : Out := readOp compareX (.mem (.abs w)) 3 4 s

/-- CPY #$nn ($C0, R159, R94). -/
def execCpyImm (b : Byte) (s : State) : Out := readOp compareY (.imm b) 2 2 s
/-- CPY $nn ($C4, R159, R95). -/
def execCpyZp (b : Byte) (s : State) : Out := readOp compareY (.mem (.zp b)) 2 3 s
/-- CPY $nnnn ($CC, R159, R98). -/
def execCpyAbs (w : Word) (s : State) : Out := readOp compareY (.mem (.abs w)) 3 4 s

/-- INC $nn ($E6, R160, R95). -/
def execIncZp (b : Byte) (s : State) : Out := modifyOp incByte (.zp b) 2 5 s
/-- INC $nnnn ($EE, R160, R98). -/
def execIncAbs (w : Word) (s : State) : Out := modifyOp incByte (.abs w) 3 6 s
/-- INC $nn,X ($F6, R160, R96). -/
def execIncZpx (b : Byte) (s : State) : Out := modifyOp incByte (.zpx b) 2 6 s
/-- INC $nnnn,X ($FE, R160, R99). -/
def execIncAbsx (w : Word) (s : State) : Out := modifyOp incByte (.absx w) 3 7 s

/-- DEC $nn ($C6, R161, R95). -/
def execDecZp (b : Byte) (s : State) : Out := modifyOp decByte (.zp b) 2 5 s
/-- DEC $nnnn ($CE, R161, R98). -/
def execDecAbs (w : Word) (s : State) : Out := modifyOp decByte (.abs w) 3 6 s
/-- DEC $nn,X ($D6, R161, R96). -/
def execDecZpx (b : Byte) (s : State) : Out := modifyOp decByte (.zpx b) 2 6 s
/-- DEC $nnnn,X ($DE, R161, R99). -/
def execDecAbsx (w : Word) (s : State) : Out := modifyOp decByte (.absx w) 3 7 s

/-- INX ($E8, R162, R92). -/
def execInx (s : State) : Out := impliedOp (stepX incByte) 1 2 s

/-- INY ($C8, R163, R92). -/
def execIny (s : State) : Out := impliedOp (stepY incByte) 1 2 s

/-- DEX ($CA, R164, R92). -/
def execDex (s : State) : Out := impliedOp (stepX decByte) 1 2 s

/-- DEY ($88, R165, R92). -/
def execDey (s : State) : Out := impliedOp (stepY decByte) 1 2 s

end Sys2Proof.Machine
end

