-- ==== Sys2Proof/Machine/Branch.lean ====
section
/-! DEFINITION. Conditional branches (spec 42_control_system.md R190 to R198). -/

namespace Sys2Proof.Machine

/-- BCC label ($90, R191, R104). -/
def execBcc (b : Byte) (s : State) : Out := branchOp (fun s => !s.flags.c) b s

/-- BCS label ($B0, R192, R104). -/
def execBcs (b : Byte) (s : State) : Out := branchOp (fun s => s.flags.c) b s

/-- BEQ label ($F0, R193, R104). -/
def execBeq (b : Byte) (s : State) : Out := branchOp (fun s => s.flags.z) b s

/-- BMI label ($30, R194, R104). -/
def execBmi (b : Byte) (s : State) : Out := branchOp (fun s => s.flags.n) b s

/-- BNE label ($D0, R195, R104). -/
def execBne (b : Byte) (s : State) : Out := branchOp (fun s => !s.flags.z) b s

/-- BPL label ($10, R196, R104). -/
def execBpl (b : Byte) (s : State) : Out := branchOp (fun s => !s.flags.n) b s

/-- BVC label ($50, R197, R104). -/
def execBvc (b : Byte) (s : State) : Out := branchOp (fun s => !s.flags.v) b s

/-- BVS label ($70, R198, R104). -/
def execBvs (b : Byte) (s : State) : Out := branchOp (fun s => s.flags.v) b s

end Sys2Proof.Machine
end

