-- ==== Sys2Proof/Machine/FlagOps.lean ====
section
/-! DEFINITION. Flag instructions, each writing one flag (spec 42_control_system.md R205 to R211, 10_state.md R35). -/

namespace Sys2Proof.Machine

/-- CLC ($18, R205, R92). -/
def execClc (s : State) : Out := impliedOp (fun s => s.setFlags { s.flags with c := false }) 1 2 s

/-- SEC ($38, R206, R92). -/
def execSec (s : State) : Out := impliedOp (fun s => s.setFlags { s.flags with c := true }) 1 2 s

/-- CLI ($58, R207, R92). -/
def execCli (s : State) : Out := impliedOp (fun s => s.setFlags { s.flags with i := false }) 1 2 s

/-- SEI ($78, R208, R92). -/
def execSei (s : State) : Out := impliedOp (fun s => s.setFlags { s.flags with i := true }) 1 2 s

/-- CLD ($D8, R209, R92). -/
def execCld (s : State) : Out := impliedOp (fun s => s.setFlags { s.flags with d := false }) 1 2 s

/-- SED ($F8, R210, R92). -/
def execSed (s : State) : Out := impliedOp (fun s => s.setFlags { s.flags with d := true }) 1 2 s

/-- CLV ($B8, R211, R92). -/
def execClv (s : State) : Out := impliedOp (fun s => s.setFlags { s.flags with v := false }) 1 2 s

end Sys2Proof.Machine
end

