-- ==== Sys2Proof/Machine/Jump.lean ====
section
/-! DEFINITION. Jumps, subroutines, software interrupt, return from interrupt, NOP (spec 42_control_system.md R199 to R204). -/

namespace Sys2Proof.Machine

/-- JMP $nnnn ($4C, R199, R98). -/
def execJmpAbs (w : Word) (s : State) : Out := .next (s.jump w 3)
/-- JMP ($nnnn) ($6C, R199, R101). -/
def execJmpInd (w : Word) (s : State) : Out := .next ((s.readIndirect w).2.jump (s.readIndirect w).1 5)

/-- JSR $nnnn ($20, R200, R98). -/
def execJsrAbs (w : Word) (s : State) : Out := .next ((s.pushWord (s.pc + 2#16)).jump w 6)

/-- RTS ($60, R201, R92). -/
def execRts (s : State) : Out := .next (s.pullWord.2.jump (s.pullWord.1 + 1#16) 6)

/-- RTI ($40, R202, R92). -/
def execRti (s : State) : Out := .next (s.leave.addCycles 6)

/-- BRK ($00, R203, R92). -/
def execBrk (s : State) : Out := .next ((s.enter (s.pc + 2#16) true irqVector).addCycles 7)

/-- NOP ($EA, R204, R92). -/
def execNop (s : State) : Out := impliedOp (fun s => s) 1 2 s

end Sys2Proof.Machine
end

