-- ==== Sys2Proof/Machine/Logic.lean ====
section
/-! DEFINITION. Bitwise instructions and BIT (spec 41_arith_logic.md R153 to R156). -/

namespace Sys2Proof.Machine

/-- AND on its operand (R153). -/
def andA (m : Byte) (s : State) : State := loadA (s.a &&& m) s
/-- ORA on its operand (R154). -/
def orA (m : Byte) (s : State) : State := loadA (s.a ||| m) s
/-- EOR on its operand (R155). -/
def eorA (m : Byte) (s : State) : State := loadA (s.a ^^^ m) s
/-- BIT on its operand (R156). -/
def bitA (m : Byte) (s : State) : State := s.setFlags (bitFlags s.a m s.flags)

/-- AND ($nn,X) ($21, R153, R102). -/
def execAndIzx (b : Byte) (s : State) : Out := readOp andA (.mem (.izx b)) 2 6 s
/-- AND $nn ($25, R153, R95). -/
def execAndZp (b : Byte) (s : State) : Out := readOp andA (.mem (.zp b)) 2 3 s
/-- AND #$nn ($29, R153, R94). -/
def execAndImm (b : Byte) (s : State) : Out := readOp andA (.imm b) 2 2 s
/-- AND $nnnn ($2D, R153, R98). -/
def execAndAbs (w : Word) (s : State) : Out := readOp andA (.mem (.abs w)) 3 4 s
/-- AND ($nn),Y ($31, R153, R103). -/
def execAndIzy (b : Byte) (s : State) : Out := readOp andA (.mem (.izy b)) 2 5 s
/-- AND $nn,X ($35, R153, R96). -/
def execAndZpx (b : Byte) (s : State) : Out := readOp andA (.mem (.zpx b)) 2 4 s
/-- AND $nnnn,Y ($39, R153, R100). -/
def execAndAbsy (w : Word) (s : State) : Out := readOp andA (.mem (.absy w)) 3 4 s
/-- AND $nnnn,X ($3D, R153, R99). -/
def execAndAbsx (w : Word) (s : State) : Out := readOp andA (.mem (.absx w)) 3 4 s

/-- ORA ($nn,X) ($01, R154, R102). -/
def execOraIzx (b : Byte) (s : State) : Out := readOp orA (.mem (.izx b)) 2 6 s
/-- ORA $nn ($05, R154, R95). -/
def execOraZp (b : Byte) (s : State) : Out := readOp orA (.mem (.zp b)) 2 3 s
/-- ORA #$nn ($09, R154, R94). -/
def execOraImm (b : Byte) (s : State) : Out := readOp orA (.imm b) 2 2 s
/-- ORA $nnnn ($0D, R154, R98). -/
def execOraAbs (w : Word) (s : State) : Out := readOp orA (.mem (.abs w)) 3 4 s
/-- ORA ($nn),Y ($11, R154, R103). -/
def execOraIzy (b : Byte) (s : State) : Out := readOp orA (.mem (.izy b)) 2 5 s
/-- ORA $nn,X ($15, R154, R96). -/
def execOraZpx (b : Byte) (s : State) : Out := readOp orA (.mem (.zpx b)) 2 4 s
/-- ORA $nnnn,Y ($19, R154, R100). -/
def execOraAbsy (w : Word) (s : State) : Out := readOp orA (.mem (.absy w)) 3 4 s
/-- ORA $nnnn,X ($1D, R154, R99). -/
def execOraAbsx (w : Word) (s : State) : Out := readOp orA (.mem (.absx w)) 3 4 s

/-- EOR ($nn,X) ($41, R155, R102). -/
def execEorIzx (b : Byte) (s : State) : Out := readOp eorA (.mem (.izx b)) 2 6 s
/-- EOR $nn ($45, R155, R95). -/
def execEorZp (b : Byte) (s : State) : Out := readOp eorA (.mem (.zp b)) 2 3 s
/-- EOR #$nn ($49, R155, R94). -/
def execEorImm (b : Byte) (s : State) : Out := readOp eorA (.imm b) 2 2 s
/-- EOR $nnnn ($4D, R155, R98). -/
def execEorAbs (w : Word) (s : State) : Out := readOp eorA (.mem (.abs w)) 3 4 s
/-- EOR ($nn),Y ($51, R155, R103). -/
def execEorIzy (b : Byte) (s : State) : Out := readOp eorA (.mem (.izy b)) 2 5 s
/-- EOR $nn,X ($55, R155, R96). -/
def execEorZpx (b : Byte) (s : State) : Out := readOp eorA (.mem (.zpx b)) 2 4 s
/-- EOR $nnnn,Y ($59, R155, R100). -/
def execEorAbsy (w : Word) (s : State) : Out := readOp eorA (.mem (.absy w)) 3 4 s
/-- EOR $nnnn,X ($5D, R155, R99). -/
def execEorAbsx (w : Word) (s : State) : Out := readOp eorA (.mem (.absx w)) 3 4 s

/-- BIT $nn ($24, R156, R95). -/
def execBitZp (b : Byte) (s : State) : Out := readOp bitA (.mem (.zp b)) 2 3 s
/-- BIT $nnnn ($2C, R156, R98). -/
def execBitAbs (w : Word) (s : State) : Out := readOp bitA (.mem (.abs w)) 3 4 s

end Sys2Proof.Machine
end

