-- ==== Sys2Proof/Machine/Shift.lean ====
section
/-! DEFINITION. Shifts and rotates, on A and on memory (spec 41_arith_logic.md R166 to R169). -/

namespace Sys2Proof.Machine

/-- ASL $nn ($06, R166, R95). -/
def execAslZp (b : Byte) (s : State) : Out := modifyOp aslByte (.zp b) 2 5 s
/-- ASL A ($0A, R166, R93). -/
def execAslAcc (s : State) : Out := modifyAcc aslByte 1 2 s
/-- ASL $nnnn ($0E, R166, R98). -/
def execAslAbs (w : Word) (s : State) : Out := modifyOp aslByte (.abs w) 3 6 s
/-- ASL $nn,X ($16, R166, R96). -/
def execAslZpx (b : Byte) (s : State) : Out := modifyOp aslByte (.zpx b) 2 6 s
/-- ASL $nnnn,X ($1E, R166, R99). -/
def execAslAbsx (w : Word) (s : State) : Out := modifyOp aslByte (.absx w) 3 7 s

/-- LSR $nn ($46, R167, R95). -/
def execLsrZp (b : Byte) (s : State) : Out := modifyOp lsrByte (.zp b) 2 5 s
/-- LSR A ($4A, R167, R93). -/
def execLsrAcc (s : State) : Out := modifyAcc lsrByte 1 2 s
/-- LSR $nnnn ($4E, R167, R98). -/
def execLsrAbs (w : Word) (s : State) : Out := modifyOp lsrByte (.abs w) 3 6 s
/-- LSR $nn,X ($56, R167, R96). -/
def execLsrZpx (b : Byte) (s : State) : Out := modifyOp lsrByte (.zpx b) 2 6 s
/-- LSR $nnnn,X ($5E, R167, R99). -/
def execLsrAbsx (w : Word) (s : State) : Out := modifyOp lsrByte (.absx w) 3 7 s

/-- ROL $nn ($26, R168, R95). -/
def execRolZp (b : Byte) (s : State) : Out := modifyOp rolByte (.zp b) 2 5 s
/-- ROL A ($2A, R168, R93). -/
def execRolAcc (s : State) : Out := modifyAcc rolByte 1 2 s
/-- ROL $nnnn ($2E, R168, R98). -/
def execRolAbs (w : Word) (s : State) : Out := modifyOp rolByte (.abs w) 3 6 s
/-- ROL $nn,X ($36, R168, R96). -/
def execRolZpx (b : Byte) (s : State) : Out := modifyOp rolByte (.zpx b) 2 6 s
/-- ROL $nnnn,X ($3E, R168, R99). -/
def execRolAbsx (w : Word) (s : State) : Out := modifyOp rolByte (.absx w) 3 7 s

/-- ROR $nn ($66, R169, R95). -/
def execRorZp (b : Byte) (s : State) : Out := modifyOp rorByte (.zp b) 2 5 s
/-- ROR A ($6A, R169, R93). -/
def execRorAcc (s : State) : Out := modifyAcc rorByte 1 2 s
/-- ROR $nnnn ($6E, R169, R98). -/
def execRorAbs (w : Word) (s : State) : Out := modifyOp rorByte (.abs w) 3 6 s
/-- ROR $nn,X ($76, R169, R96). -/
def execRorZpx (b : Byte) (s : State) : Out := modifyOp rorByte (.zpx b) 2 6 s
/-- ROR $nnnn,X ($7E, R169, R99). -/
def execRorAbsx (w : Word) (s : State) : Out := modifyOp rorByte (.absx w) 3 7 s

end Sys2Proof.Machine
end

