-- ==== Sys2Proof/Machine/Stack.lean ====
section
/-! DEFINITION. Stack instructions (spec 40_load_store_transfer.md R133 to R136). -/

namespace Sys2Proof.Machine

/-- PHA ($48, R133, R92). -/
def execPha (s : State) : Out := .next ((s.push s.a).finish 1 3)

/-- PHP ($08, R134, R92). -/
def execPhp (s : State) : Out := .next ((s.push (packP true s.flags)).finish 1 3)

/-- PLA ($68, R135, R92). -/
def execPla (s : State) : Out := .next ((loadA s.pull.1 s.pull.2).finish 1 4)

/-- PLP ($28, R136, R92). -/
def execPlp (s : State) : Out := .next ((s.pull.2.setFlags (unpackP s.pull.1)).finish 1 4)

end Sys2Proof.Machine
end

