-- ==== Sys2Proof/Machine/Transfer.lean ====
section
/-! DEFINITION. Transfers between registers (spec 40_load_store_transfer.md R127 to R132). A transfer that sets N and Z is a load
of the register it reads. -/

namespace Sys2Proof.Machine

/-- TAX ($AA, R127, R92). -/
def execTax (s : State) : Out := impliedOp (fun s => loadX s.a s) 1 2 s

/-- TAY ($A8, R128, R92). -/
def execTay (s : State) : Out := impliedOp (fun s => loadY s.a s) 1 2 s

/-- TXA ($8A, R129, R92). -/
def execTxa (s : State) : Out := impliedOp (fun s => loadA s.x s) 1 2 s

/-- TYA ($98, R130, R92). -/
def execTya (s : State) : Out := impliedOp (fun s => loadA s.y s) 1 2 s

/-- TSX ($BA, R131, R92). -/
def execTsx (s : State) : Out := impliedOp (fun s => loadX s.sp s) 1 2 s

/-- TXS ($9A, R132, R92). -/
def execTxs (s : State) : Out := impliedOp (fun s => s.setSp s.x) 1 2 s

end Sys2Proof.Machine
end

