-- ==== Sys2Proof/Machine/Dispatch.lean ====
section
/-! DEFINITION. The meaning of every instruction, one arm each (spec 30_encoding.md R106). The cycles an instruction
counts are those of R110 to R113; the chips advance by them when the step ends (Machine/Step.lean). -/

namespace Sys2Proof.Machine

def exec (i : Instr) (s : State) : Host.Outcome State Fault Refusal :=
  match i with
  | .ldaIzx b => Sys2Proof.Machine.execLdaIzx b s
  | .ldaZp b => Sys2Proof.Machine.execLdaZp b s
  | .ldaImm b => Sys2Proof.Machine.execLdaImm b s
  | .ldaAbs w => Sys2Proof.Machine.execLdaAbs w s
  | .ldaIzy b => Sys2Proof.Machine.execLdaIzy b s
  | .ldaZpx b => Sys2Proof.Machine.execLdaZpx b s
  | .ldaAbsy w => Sys2Proof.Machine.execLdaAbsy w s
  | .ldaAbsx w => Sys2Proof.Machine.execLdaAbsx w s
  | .ldxImm b => Sys2Proof.Machine.execLdxImm b s
  | .ldxZp b => Sys2Proof.Machine.execLdxZp b s
  | .ldxAbs w => Sys2Proof.Machine.execLdxAbs w s
  | .ldxZpy b => Sys2Proof.Machine.execLdxZpy b s
  | .ldxAbsy w => Sys2Proof.Machine.execLdxAbsy w s
  | .ldyImm b => Sys2Proof.Machine.execLdyImm b s
  | .ldyZp b => Sys2Proof.Machine.execLdyZp b s
  | .ldyAbs w => Sys2Proof.Machine.execLdyAbs w s
  | .ldyZpx b => Sys2Proof.Machine.execLdyZpx b s
  | .ldyAbsx w => Sys2Proof.Machine.execLdyAbsx w s
  | .staIzx b => Sys2Proof.Machine.execStaIzx b s
  | .staZp b => Sys2Proof.Machine.execStaZp b s
  | .staAbs w => Sys2Proof.Machine.execStaAbs w s
  | .staIzy b => Sys2Proof.Machine.execStaIzy b s
  | .staZpx b => Sys2Proof.Machine.execStaZpx b s
  | .staAbsy w => Sys2Proof.Machine.execStaAbsy w s
  | .staAbsx w => Sys2Proof.Machine.execStaAbsx w s
  | .stxZp b => Sys2Proof.Machine.execStxZp b s
  | .stxAbs w => Sys2Proof.Machine.execStxAbs w s
  | .stxZpy b => Sys2Proof.Machine.execStxZpy b s
  | .styZp b => Sys2Proof.Machine.execStyZp b s
  | .styAbs w => Sys2Proof.Machine.execStyAbs w s
  | .styZpx b => Sys2Proof.Machine.execStyZpx b s
  | .tax => Sys2Proof.Machine.execTax s
  | .tay => Sys2Proof.Machine.execTay s
  | .txa => Sys2Proof.Machine.execTxa s
  | .tya => Sys2Proof.Machine.execTya s
  | .tsx => Sys2Proof.Machine.execTsx s
  | .txs => Sys2Proof.Machine.execTxs s
  | .pha => Sys2Proof.Machine.execPha s
  | .php => Sys2Proof.Machine.execPhp s
  | .pla => Sys2Proof.Machine.execPla s
  | .plp => Sys2Proof.Machine.execPlp s
  | .adcIzx b => Sys2Proof.Machine.execAdcIzx b s
  | .adcZp b => Sys2Proof.Machine.execAdcZp b s
  | .adcImm b => Sys2Proof.Machine.execAdcImm b s
  | .adcAbs w => Sys2Proof.Machine.execAdcAbs w s
  | .adcIzy b => Sys2Proof.Machine.execAdcIzy b s
  | .adcZpx b => Sys2Proof.Machine.execAdcZpx b s
  | .adcAbsy w => Sys2Proof.Machine.execAdcAbsy w s
  | .adcAbsx w => Sys2Proof.Machine.execAdcAbsx w s
  | .sbcIzx b => Sys2Proof.Machine.execSbcIzx b s
  | .sbcZp b => Sys2Proof.Machine.execSbcZp b s
  | .sbcImm b => Sys2Proof.Machine.execSbcImm b s
  | .sbcAbs w => Sys2Proof.Machine.execSbcAbs w s
  | .sbcIzy b => Sys2Proof.Machine.execSbcIzy b s
  | .sbcZpx b => Sys2Proof.Machine.execSbcZpx b s
  | .sbcAbsy w => Sys2Proof.Machine.execSbcAbsy w s
  | .sbcAbsx w => Sys2Proof.Machine.execSbcAbsx w s
  | .andIzx b => Sys2Proof.Machine.execAndIzx b s
  | .andZp b => Sys2Proof.Machine.execAndZp b s
  | .andImm b => Sys2Proof.Machine.execAndImm b s
  | .andAbs w => Sys2Proof.Machine.execAndAbs w s
  | .andIzy b => Sys2Proof.Machine.execAndIzy b s
  | .andZpx b => Sys2Proof.Machine.execAndZpx b s
  | .andAbsy w => Sys2Proof.Machine.execAndAbsy w s
  | .andAbsx w => Sys2Proof.Machine.execAndAbsx w s
  | .oraIzx b => Sys2Proof.Machine.execOraIzx b s
  | .oraZp b => Sys2Proof.Machine.execOraZp b s
  | .oraImm b => Sys2Proof.Machine.execOraImm b s
  | .oraAbs w => Sys2Proof.Machine.execOraAbs w s
  | .oraIzy b => Sys2Proof.Machine.execOraIzy b s
  | .oraZpx b => Sys2Proof.Machine.execOraZpx b s
  | .oraAbsy w => Sys2Proof.Machine.execOraAbsy w s
  | .oraAbsx w => Sys2Proof.Machine.execOraAbsx w s
  | .eorIzx b => Sys2Proof.Machine.execEorIzx b s
  | .eorZp b => Sys2Proof.Machine.execEorZp b s
  | .eorImm b => Sys2Proof.Machine.execEorImm b s
  | .eorAbs w => Sys2Proof.Machine.execEorAbs w s
  | .eorIzy b => Sys2Proof.Machine.execEorIzy b s
  | .eorZpx b => Sys2Proof.Machine.execEorZpx b s
  | .eorAbsy w => Sys2Proof.Machine.execEorAbsy w s
  | .eorAbsx w => Sys2Proof.Machine.execEorAbsx w s
  | .bitZp b => Sys2Proof.Machine.execBitZp b s
  | .bitAbs w => Sys2Proof.Machine.execBitAbs w s
  | .cmpIzx b => Sys2Proof.Machine.execCmpIzx b s
  | .cmpZp b => Sys2Proof.Machine.execCmpZp b s
  | .cmpImm b => Sys2Proof.Machine.execCmpImm b s
  | .cmpAbs w => Sys2Proof.Machine.execCmpAbs w s
  | .cmpIzy b => Sys2Proof.Machine.execCmpIzy b s
  | .cmpZpx b => Sys2Proof.Machine.execCmpZpx b s
  | .cmpAbsy w => Sys2Proof.Machine.execCmpAbsy w s
  | .cmpAbsx w => Sys2Proof.Machine.execCmpAbsx w s
  | .cpxImm b => Sys2Proof.Machine.execCpxImm b s
  | .cpxZp b => Sys2Proof.Machine.execCpxZp b s
  | .cpxAbs w => Sys2Proof.Machine.execCpxAbs w s
  | .cpyImm b => Sys2Proof.Machine.execCpyImm b s
  | .cpyZp b => Sys2Proof.Machine.execCpyZp b s
  | .cpyAbs w => Sys2Proof.Machine.execCpyAbs w s
  | .incZp b => Sys2Proof.Machine.execIncZp b s
  | .incAbs w => Sys2Proof.Machine.execIncAbs w s
  | .incZpx b => Sys2Proof.Machine.execIncZpx b s
  | .incAbsx w => Sys2Proof.Machine.execIncAbsx w s
  | .decZp b => Sys2Proof.Machine.execDecZp b s
  | .decAbs w => Sys2Proof.Machine.execDecAbs w s
  | .decZpx b => Sys2Proof.Machine.execDecZpx b s
  | .decAbsx w => Sys2Proof.Machine.execDecAbsx w s
  | .inx => Sys2Proof.Machine.execInx s
  | .iny => Sys2Proof.Machine.execIny s
  | .dex => Sys2Proof.Machine.execDex s
  | .dey => Sys2Proof.Machine.execDey s
  | .aslZp b => Sys2Proof.Machine.execAslZp b s
  | .aslAcc => Sys2Proof.Machine.execAslAcc s
  | .aslAbs w => Sys2Proof.Machine.execAslAbs w s
  | .aslZpx b => Sys2Proof.Machine.execAslZpx b s
  | .aslAbsx w => Sys2Proof.Machine.execAslAbsx w s
  | .lsrZp b => Sys2Proof.Machine.execLsrZp b s
  | .lsrAcc => Sys2Proof.Machine.execLsrAcc s
  | .lsrAbs w => Sys2Proof.Machine.execLsrAbs w s
  | .lsrZpx b => Sys2Proof.Machine.execLsrZpx b s
  | .lsrAbsx w => Sys2Proof.Machine.execLsrAbsx w s
  | .rolZp b => Sys2Proof.Machine.execRolZp b s
  | .rolAcc => Sys2Proof.Machine.execRolAcc s
  | .rolAbs w => Sys2Proof.Machine.execRolAbs w s
  | .rolZpx b => Sys2Proof.Machine.execRolZpx b s
  | .rolAbsx w => Sys2Proof.Machine.execRolAbsx w s
  | .rorZp b => Sys2Proof.Machine.execRorZp b s
  | .rorAcc => Sys2Proof.Machine.execRorAcc s
  | .rorAbs w => Sys2Proof.Machine.execRorAbs w s
  | .rorZpx b => Sys2Proof.Machine.execRorZpx b s
  | .rorAbsx w => Sys2Proof.Machine.execRorAbsx w s
  | .bcc b => Sys2Proof.Machine.execBcc b s
  | .bcs b => Sys2Proof.Machine.execBcs b s
  | .beq b => Sys2Proof.Machine.execBeq b s
  | .bmi b => Sys2Proof.Machine.execBmi b s
  | .bne b => Sys2Proof.Machine.execBne b s
  | .bpl b => Sys2Proof.Machine.execBpl b s
  | .bvc b => Sys2Proof.Machine.execBvc b s
  | .bvs b => Sys2Proof.Machine.execBvs b s
  | .jmpAbs w => Sys2Proof.Machine.execJmpAbs w s
  | .jmpInd w => Sys2Proof.Machine.execJmpInd w s
  | .jsrAbs w => Sys2Proof.Machine.execJsrAbs w s
  | .rts => Sys2Proof.Machine.execRts s
  | .rti => Sys2Proof.Machine.execRti s
  | .brk => Sys2Proof.Machine.execBrk s
  | .nop => Sys2Proof.Machine.execNop s
  | .clc => Sys2Proof.Machine.execClc s
  | .sec => Sys2Proof.Machine.execSec s
  | .cli => Sys2Proof.Machine.execCli s
  | .sei => Sys2Proof.Machine.execSei s
  | .cld => Sys2Proof.Machine.execCld s
  | .sed => Sys2Proof.Machine.execSed s
  | .clv => Sys2Proof.Machine.execClv s

end Sys2Proof.Machine
end

