-- ==== Sys2Proof/Machine/Fetch.lean ====
section
/-! DEFINITION. Fetching an instruction's bytes through the bus (spec 30_encoding.md R90, R105; 20_memory.md R72) and
running what was fetched: one step in the Running state (60_exceptions.md R231). At the end, laying an instruction
down where the next step fetches it (log 12). -/

namespace Sys2Proof.Machine

/-- What a fetch gives: an illegal opcode byte, or an instruction, each with the machine after the fetch's reads. -/
inductive Fetched where
  | illegal (op : Byte) (st : State)
  | instr (i : Instr) (st : State)
deriving DecidableEq, Repr

/-- Fetch at PC: the opcode byte, then as many operand bytes as it asks for, in address order (R90, R105). Each is a
bus read with that address's read effect (R64). PC stays at the opcode. -/
def State.fetch (s : State) : Fetched :=
  let op := s.busRead s.pc
  match opcodeShape op.1 with
  | none => .illegal op.1 op.2
  | some (.implied i) => .instr i op.2
  | some (.byte build) =>
    let b := op.2.busRead (s.pc + 1#16)
    .instr (build b.1) b.2
  | some (.word build) =>
    let w := op.2.read16 (s.pc + 1#16)
    .instr (build w.1) w.2

/-- Run one instruction and advance the chips by the cycles it counted (R231, R244). -/
def runInstr (i : Instr) (s : State) : Out :=
  match exec i s with
  | .next t => .next (s.endStep t)
  | .fault r => .fault r
  | .refused r => .refused r

/-- A step in the Running state (R231): the sampling point, then the interrupt entry it takes, or the instruction at
PC, or the halt at an illegal opcode (R239: no cycles, no chip advance). -/
def stepRunning (s : State) : Out :=
  match s.interruptEntry with
  | some t => .next (s.endStep t)
  | none =>
    match s.fetch with
    | .illegal op t => .next (t.halt op)
    | .instr i t => runInstr i t

/-- How many bytes a fetch that begins with this opcode reads (R90): an illegal opcode is read alone (R109). -/
def fetchCount (op : Byte) : Nat :=
  match opcodeShape op with
  | some (.byte _) => 2
  | some (.word _) => 3
  | _ => 1

/-- Whether an address reaches a chip's registers, which hold no code of their own. -/
def State.isChip (s : State) (a : Word) : Bool :=
  match s.regionOf a with
  | .video | .timer0 | .timer1 => true
  | .ram | .basicRom | .kernalRom | .charRom => false

/-- One byte laid down where a bus read of `a` finds it: in RAM, or in the ROM image mapped there. -/
def State.placeByte (s : State) (a : Word) (v : Byte) : State :=
  match s.regionOf a with
  | .basicRom => { s with rom := { s.rom with basic := Cells.write romUnlisted s.rom.basic (a.toNat - 0xA000) v } }
  | .kernalRom => { s with rom := { s.rom with kernal := Cells.write romUnlisted s.rom.kernal (a.toNat - 0xE000) v } }
  | .charRom => { s with rom := { s.rom with char := Cells.write romUnlisted s.rom.char (a.toNat - 0xD000) v } }
  | .ram | .video | .timer0 | .timer1 => s.setRamByte a v

/-- The machine as it must be for the next step to fetch: not halted, and with no interrupt to be taken first. -/
def State.readyToFetch (s : State) : State :=
  let s := { s with run := RunState.running }
  match s.interruptEntry with
  | none => s
  | some _ =>
    { s with
      timer0 := { s.timer0 with pending := false }
      timer1 := { s.timer1 with pending := false }
      video := { s.video with pending := false } }

/-- Bytes with the addresses they are fetched from, from `a` on. -/
def codeAt : Word → List Byte → List (Word × Byte)
  | _, [] => []
  | a, v :: rest => (a, v) :: codeAt (a + 1#16) rest

/-- Code bytes laid down at PC. Bytes for $0000 and $0001 go first, since $0001 holds the bank bits; where an address
would reach a chip, the bank bits are cleared so that all of it is RAM (R54). -/
def State.placeCode (s : State) (bytes : List Byte) : State :=
  let code := codeAt s.pc bytes
  let s := s.readyToFetch
  let s := code.foldl (fun s b => if b.1.toNat < 2 then s.setRamByte b.1 b.2 else s) s
  let s := if code.any (fun b => s.isChip b.1) then s.setRamByte 0x0001#16 (s.ramByte 0x0001#16 &&& 0xF8#8) else s
  code.foldl (fun s b => s.placeByte b.1 b.2) s

/-- An opcode-table word laid down at PC: as many of its bytes as a fetch of its opcode reads. -/
def State.placeWord (s : State) (nbits w : Nat) : State :=
  match tableBytes nbits w with
  | [] => s
  | op :: rest => s.placeCode ((op :: rest).take (fetchCount op))

end Sys2Proof.Machine
end

