-- ==== Sys2Proof/Machine/Step.lean ====
section
/-! DEFINITION. One step of the machine (spec 60_exceptions.md R231). -/

namespace Sys2Proof.Machine

/-- One step: a halted machine stays as it is (R240), a running one takes an interrupt entry or an instruction. -/
def step (s : State) : Host.Outcome State Fault Refusal :=
  match s.run with
  | .halted _ _ => .next s
  | .running => stepRunning s.beginStep

/-- The machine with the instruction of an opcode-table word laid down where its next step fetches (log 12). -/
def State.withFetchWord (s : State) (nbits w : Nat) : State := s.placeWord nbits w

end Sys2Proof.Machine
end

