-- ==== Sys2Proof/Machine/Assembly.lean ====
section
/-! DEFINITION. Instructions written in the MOS assembler syntax (spec 30_encoding.md R114), as lists of characters:
the mnemonic, then the operand in the form of its mode. -/

namespace Sys2Proof.Machine

/-- A mnemonic's three letters (R114). -/
def mnemonicChars : Mnemonic → List Char
  | .adc => ['A', 'D', 'C'] | .and => ['A', 'N', 'D'] | .asl => ['A', 'S', 'L']
  | .bcc => ['B', 'C', 'C'] | .bcs => ['B', 'C', 'S'] | .beq => ['B', 'E', 'Q']
  | .bit => ['B', 'I', 'T'] | .bmi => ['B', 'M', 'I'] | .bne => ['B', 'N', 'E']
  | .bpl => ['B', 'P', 'L'] | .brk => ['B', 'R', 'K'] | .bvc => ['B', 'V', 'C']
  | .bvs => ['B', 'V', 'S'] | .clc => ['C', 'L', 'C'] | .cld => ['C', 'L', 'D']
  | .cli => ['C', 'L', 'I'] | .clv => ['C', 'L', 'V'] | .cmp => ['C', 'M', 'P']
  | .cpx => ['C', 'P', 'X'] | .cpy => ['C', 'P', 'Y'] | .dec => ['D', 'E', 'C']
  | .dex => ['D', 'E', 'X'] | .dey => ['D', 'E', 'Y'] | .eor => ['E', 'O', 'R']
  | .inc => ['I', 'N', 'C'] | .inx => ['I', 'N', 'X'] | .iny => ['I', 'N', 'Y']
  | .jmp => ['J', 'M', 'P'] | .jsr => ['J', 'S', 'R'] | .lda => ['L', 'D', 'A']
  | .ldx => ['L', 'D', 'X'] | .ldy => ['L', 'D', 'Y'] | .lsr => ['L', 'S', 'R']
  | .nop => ['N', 'O', 'P'] | .ora => ['O', 'R', 'A'] | .pha => ['P', 'H', 'A']
  | .php => ['P', 'H', 'P'] | .pla => ['P', 'L', 'A'] | .plp => ['P', 'L', 'P']
  | .rol => ['R', 'O', 'L'] | .ror => ['R', 'O', 'R'] | .rti => ['R', 'T', 'I']
  | .rts => ['R', 'T', 'S'] | .sbc => ['S', 'B', 'C'] | .sec => ['S', 'E', 'C']
  | .sed => ['S', 'E', 'D'] | .sei => ['S', 'E', 'I'] | .sta => ['S', 'T', 'A']
  | .stx => ['S', 'T', 'X'] | .sty => ['S', 'T', 'Y'] | .tax => ['T', 'A', 'X']
  | .tay => ['T', 'A', 'Y'] | .tsx => ['T', 'S', 'X'] | .txa => ['T', 'X', 'A']
  | .txs => ['T', 'X', 'S'] | .tya => ['T', 'Y', 'A']

/-- One hexadecimal digit. -/
def hexDigit (n : Nat) : Char :=
  ['0', '1', '2', '3', '4', '5', '6', '7', '8', '9', 'A', 'B', 'C', 'D', 'E', 'F'].getD n '?'

/-- A byte as two hexadecimal digits. -/
def hexByte (b : Byte) : List Char := [hexDigit (b.toNat / 16), hexDigit (b.toNat % 16)]

/-- `$nn` (R114). -/
def hexShort (b : Byte) : List Char := '$' :: hexByte b

/-- `$nnnn` (R114). -/
def hexLong (w : Word) : List Char := '$' :: (hexByte (hi8 w) ++ hexByte (lo8 w))

/-- A memory operand (R114): `zp`, `zp,X`, `zp,Y`, `abs`, `abs,X`, `abs,Y`, `(zp,X)`, `(zp),Y`. -/
def memChars : MemMode → List Char
  | .zp b => hexShort b
  | .zpx b => hexShort b ++ [',', 'X']
  | .zpy b => hexShort b ++ [',', 'Y']
  | .abs w => hexLong w
  | .absx w => hexLong w ++ [',', 'X']
  | .absy w => hexLong w ++ [',', 'Y']
  | .izx b => ['('] ++ hexShort b ++ [',', 'X', ')']
  | .izy b => ['('] ++ hexShort b ++ [')', ',', 'Y']

/-- The operand of a mode (R114): none, `A`, `#v`, a memory operand, `(abs)`, or the address a branch at `pc`
targets (R104). -/
def operandChars (pc : Word) : Mode → List Char
  | .imp => []
  | .acc => ['A']
  | .data (.imm b) => '#' :: hexShort b
  | .data (.mem m) => memChars m
  | .ind w => ['('] ++ hexLong w ++ [')']
  | .rel b => hexLong (pc + 2#16 + b.signExtend 16)

/-- The instruction at `pc` in assembler syntax (R114). -/
def asmChars (pc : Word) (i : Instr) : List Char :=
  match operandChars pc i.mode with
  | [] => mnemonicChars i.mnemonic
  | cs => mnemonicChars i.mnemonic ++ ' ' :: cs

end Sys2Proof.Machine
end

