-- ==== Sys2Proof/Machine/Debugger.lean ====
section
/-! DEFINITION. What the host sees and drives (spec 60_exceptions.md R280 to R286): snapshots, breakpoints,
watchpoints and the run loop. The two sets are the host's data, no part of the machine's state (10_state.md R45). -/

namespace Sys2Proof.Machine

/-- What `snapshot()` returns (R285). -/
structure Snapshot where
  a : Byte
  x : Byte
  y : Byte
  sp : Byte
  pc : Word
  /-- The flags as the byte `PackP(0)` (10_state.md R36). -/
  p : Byte
  flags : Flags
  irqLine : Bool
  nmiLine : Bool
  cycles : Nat
  run : RunState
deriving DecidableEq, Repr

/-- `snapshot()` (R285, 20_memory.md R74): a pure observation. -/
def State.snapshot (s : State) : Snapshot :=
  { a := s.a, x := s.x, y := s.y, sp := s.sp, pc := s.pc, p := packP false s.flags, flags := s.flags
    irqLine := s.irqLine, nmiLine := s.nmiLine, cycles := s.cycles, run := s.run }

/-- The debugger's two sets of addresses, each with no repeats. -/
structure Debugger where
  breakpoints : List Word
  watchpoints : List Word
deriving DecidableEq, Repr

/-- Insert an address into a set; inserting it again changes nothing (R282). -/
def insertAddr (addrs : List Word) (a : Word) : List Word := if addrs.contains a then addrs else a :: addrs

/-- `set_breakpoint(addr)` (R282). -/
def setBreakpoint (g : Debugger) (a : Word) : Debugger := { g with breakpoints := insertAddr g.breakpoints a }

/-- The insertion of a watchpoint (R283). -/
def setWatchpoint (g : Debugger) (a : Word) : Debugger := { g with watchpoints := insertAddr g.watchpoints a }

/-- The debugger's `step()` (R281): one step, and the snapshot that follows it. -/
def debugStep (s : State) : Host.Outcome (State × Snapshot) Fault Refusal :=
  match step s with
  | .next t => .next (t, t.snapshot)
  | .fault r => .fault r
  | .refused r => .refused r

/-- Why `run()` is where it is (R284). -/
inductive RunStatus where
  /-- The stop request was seen. -/
  | request
  /-- PC is at a breakpoint, the instruction there not executed. -/
  | breakpoint
  /-- A step wrote to a watched address. -/
  | watchpoint
  /-- The core is halted. -/
  | halted (op : Byte) (addr : Word)
  /-- The list of answers to `stop_requested()` ended: the loop has come this far and goes on. -/
  | going
  /-- A step gave no next state (it never happens: every step answers one). -/
  | noStep
deriving DecidableEq, Repr

/-- A step made a write to a watched address (R283). -/
def watchHit (g : Debugger) (t : State) : Bool := t.busWrites.any g.watchpoints.contains

/-- The loop of `run()` (R284). The list gives what `stop_requested()` answers at each turn, and so bounds the
turns; `first` is true in the first turn, whose breakpoint test is skipped. -/
def runLoop (g : Debugger) : List Bool → Bool → State → RunStatus × State
  | [], _, s => (.going, s)
  | stop :: more, first, s =>
    if stop then (.request, s)
    else if !first && g.breakpoints.contains s.pc then (.breakpoint, s)
    else
      match step s with
      | .next t =>
        match t.run with
        | .halted op a => (.halted op a, t)
        | .running => if watchHit g t then (.watchpoint, t) else runLoop g more false t
      | .fault _ => (.noStep, s)
      | .refused _ => (.noStep, s)

/-- `run()` (R284). -/
def debugRun (g : Debugger) (stops : List Bool) (s : State) : RunStatus × State := runLoop g stops true s

end Sys2Proof.Machine
end

