-- ==== Sys2Proof/Machine/Reset.lean ====
section
/-! DEFINITION. The reset event and power-on (spec 70_reset_and_hazards.md R300 to R304), which the host applies to a
machine between its steps. `State.reset` is what they leave for the parameters, images and draws named there. -/

namespace Sys2Proof.Machine

/-- The draw `ResetDraw` (00_scope.md R7): the registers and flags reset leaves unspecified (R46). -/
structure ResetDraw where
  a : Byte
  x : Byte
  y : Byte
  sp : Byte
  n : Bool
  v : Bool
  d : Bool
  z : Bool
  c : Bool
deriving DecidableEq, Repr

/-- `Reset()` (R302), for whatever the draw gives: bank bits forced, registers drawn, I set, control and chips
cleared, then the vector read through the bus. It counts no cycles and advances no chip (R303). -/
def State.resetEvent (s : State) (draw : ResetDraw) : State :=
  let s := s.setRamByte 0x0001#16 (s.ramByte 0x0001#16 ||| 0x07#8)
  let s :=
    { s with
      a := draw.a, x := draw.x, y := draw.y, sp := draw.sp
      flags := { n := draw.n, v := draw.v, d := draw.d, i := true, z := draw.z, c := draw.c }
      run := .running, nmiInService := false, cycles := 0
      timer0 := Timer.reset, timer1 := Timer.reset, video := Video.reset, busWrites := [] }
  let vec := s.read16 resetVector
  vec.2.setPc vec.1

/-- Power-on (R301): the machine is built from the parameters, the three images and the draw `InitRam`, then reset.
An image of the wrong size, or a parameter out of its range, builds no machine (93_implementation_defined.md K11). -/
def State.powerOn (p : Params) (initRam basic kernal char : List Byte) (draw : ResetDraw) : Option State :=
  if p.wf && initRam.length == ramSize && basic.length == basicSize && kernal.length == kernalSize &&
      char.length == charSize then
    let built : State :=
      { State.reset with
        params := p
        ram := Cells.ofBytes ramUnlisted 0 initRam
        rom :=
          { basic := Cells.ofBytes romUnlisted 0 basic, kernal := Cells.ofBytes romUnlisted 0 kernal
            char := Cells.ofBytes romUnlisted 0 char } }
    some (built.resetEvent draw)
  else none

end Sys2Proof.Machine
end

