-- ==== Sys2Proof/Safety.lean ====
section
/-! DEFINITION. The words claims are stated in: the invariant of a safe run, frames (what two states agree on), and
the rows of the instruction rules' encoding tables. -/

namespace Sys2Proof.Machine

/-- Bits 4, 3 and 0 of `ctrl_other` are always 0 (10_state.md R42). -/
def Timer.wf (t : Timer) : Bool := decide (t.ctrlOther &&& 0x19#8 = 0#8)

/-- The raster line and the cycles into it are in their ranges (R43). -/
def Video.wf (p : Params) (v : Video) : Bool :=
  decide (v.raster.toNat < p.linesPerFrame) && decide (v.lineAcc < p.cyclesPerLine)

/-- A halted machine stands at the illegal opcode it records (60_exceptions.md R239). -/
def State.haltWf (s : State) : Bool :=
  match s.run with
  | .running => true
  | .halted op a => illegalOpcodes.contains op && decide (a = s.pc)

/-- The invariant of a safe run: memories in canonical form and of their sizes, parameters, timers and raster in
their ranges, and a halt only where the spec has one. -/
def State.wf (s : State) : Bool :=
  Memory.wf s.ram && Roms.wf s.rom && s.params.wf && s.timer0.wf && s.timer1.wf && s.video.wf s.params && s.haltWf

/-- The pieces of a State a frame speaks of. -/
inductive Field where
  | a | x | y | sp | pc | n | v | d | i | z | c | run | nmiInService | cycles | ram | rom | timer0 | timer1 | video
  | params | drawIndex | busWrites
deriving DecidableEq, Repr

/-- Two states agree on a piece; on RAM, if every byte reads the same. -/
def agreeOn (s t : State) : Field → Prop
  | .a => t.a = s.a
  | .x => t.x = s.x
  | .y => t.y = s.y
  | .sp => t.sp = s.sp
  | .pc => t.pc = s.pc
  | .n => t.flags.n = s.flags.n
  | .v => t.flags.v = s.flags.v
  | .d => t.flags.d = s.flags.d
  | .i => t.flags.i = s.flags.i
  | .z => t.flags.z = s.flags.z
  | .c => t.flags.c = s.flags.c
  | .run => t.run = s.run
  | .nmiInService => t.nmiInService = s.nmiInService
  | .cycles => t.cycles = s.cycles
  | .ram => ∀ w : Word, t.ramByte w = s.ramByte w
  | .rom => t.rom = s.rom
  | .timer0 => t.timer0 = s.timer0
  | .timer1 => t.timer1 = s.timer1
  | .video => t.video = s.video
  | .params => t.params = s.params
  | .drawIndex => t.drawIndex = s.drawIndex
  | .busWrites => t.busWrites = s.busWrites

/-- The frame: `t` agrees with `s` on everything but the pieces named. -/
def AgreeExcept (changed : List Field) (s t : State) : Prop := ∀ f, f ∉ changed → agreeOn s t f

/-- Every byte of RAM but those at the addresses named reads as before. -/
def SameRamBut (stored : List Word) (s t : State) : Prop := ∀ w, w ∉ stored → t.ramByte w = s.ramByte w

/-- N and Z as `setNZ(v)` leaves them (10_state.md R34). -/
def NZ (v : Byte) (t : State) : Prop := t.flags.n = v.getLsbD 7 ∧ (t.flags.z = true ↔ v = 0#8)

/-- A row of an instruction rule's encoding table, for an instruction with a source operand: the instruction, its
opcode, its operand, its bytes and its base cycles. -/
structure DataRow where
  instr : Instr
  opcode : Byte
  src : Src
  bytes : Nat
  cycles : Nat
deriving DecidableEq, Repr

/-- A row of an instruction rule's encoding table, for an instruction with a memory operand. -/
structure MemRow where
  instr : Instr
  opcode : Byte
  mem : MemMode
  bytes : Nat
  cycles : Nat
deriving DecidableEq, Repr

/-- The row's encoding: opcode, mode and length. -/
def DataRow.Encoded (r : DataRow) : Prop :=
  r.instr.mode = .data r.src ∧ encode r.instr = r.opcode :: r.src.bytes ∧ r.instr.length = r.bytes

/-- The row's encoding: opcode, mode and length. -/
def MemRow.Encoded (r : MemRow) : Prop :=
  r.instr.mode = .data (.mem r.mem) ∧ encode r.instr = r.opcode :: r.mem.bytes ∧ r.instr.length = r.bytes

/-- The end of a reading instruction: PC past its bytes, its cycles with the page-crossing extra
(30_encoding.md R110, R111). -/
def DataRow.Ends (r : DataRow) (s t : State) : Prop :=
  t.pc = s.pc + BitVec.ofNat 16 r.bytes ∧ t.cycles = s.cycles + r.cycles + (operand r.src s).cross.toNat

/-- The end of a storing or read-modify-write instruction: PC past its bytes, its cycles and no extra (R111). -/
def MemRow.Ends (r : MemRow) (s t : State) : Prop :=
  t.pc = s.pc + BitVec.ofNat 16 r.bytes ∧ t.cycles = s.cycles + r.cycles

/-- The machine after `n` reads of consecutive addresses from `a` on. -/
def State.afterReads (s : State) : Nat → Word → State
  | 0, _ => s
  | n + 1, a => (s.afterRead a).afterReads n (a + 1#16)

/-- The bytes of an instruction at PC as its fetch reads them, one after another. -/
def State.codeBytes (s : State) : List Byte :=
  [s.peek s.pc, (s.afterReads 1 s.pc).peek (s.pc + 1#16), (s.afterReads 2 s.pc).peek (s.pc + 2#16)]

/-- What pushing a return address and a status byte leaves on the stack of `s`, from the highest address down
(60_exceptions.md R235): PC high, PC low, status. -/
def Pushed3 (s t : State) (ret : Word) (status : Byte) : Prop :=
  t.sp = s.sp - 3#8 ∧ t.ramByte (stackAddr s.sp) = hi8 ret ∧ t.ramByte (stackAddr (s.sp - 1#8)) = lo8 ret ∧
    t.ramByte (stackAddr (s.sp - 2#8)) = status ∧
    SameRamBut [stackAddr s.sp, stackAddr (s.sp - 1#8), stackAddr (s.sp - 2#8)] s t

/-- The 16-bit vector a fetch at `a` reads (R235). -/
def State.vectorAt (s : State) (a : Word) : Word := wordOf (s.peek (a + 1#16)) (s.peek a)

/-- The number two decimal digits stand for (41_arith_logic.md R150). -/
def bcdValue (v : Byte) : Nat := 10 * (v.toNat / 16) + v.toNat % 16

/-- The encoding table of R121. -/
def ldaRows (b : Byte) (w : Word) : List DataRow :=
  [ ⟨.ldaIzx b, 0xA1#8, .mem (.izx b), 2, 6⟩, ⟨.ldaZp b, 0xA5#8, .mem (.zp b), 2, 3⟩,
    ⟨.ldaImm b, 0xA9#8, .imm b, 2, 2⟩, ⟨.ldaAbs w, 0xAD#8, .mem (.abs w), 3, 4⟩,
    ⟨.ldaIzy b, 0xB1#8, .mem (.izy b), 2, 5⟩, ⟨.ldaZpx b, 0xB5#8, .mem (.zpx b), 2, 4⟩,
    ⟨.ldaAbsy w, 0xB9#8, .mem (.absy w), 3, 4⟩, ⟨.ldaAbsx w, 0xBD#8, .mem (.absx w), 3, 4⟩ ]

/-- The encoding table of R122. -/
def ldxRows (b : Byte) (w : Word) : List DataRow :=
  [ ⟨.ldxImm b, 0xA2#8, .imm b, 2, 2⟩, ⟨.ldxZp b, 0xA6#8, .mem (.zp b), 2, 3⟩,
    ⟨.ldxAbs w, 0xAE#8, .mem (.abs w), 3, 4⟩, ⟨.ldxZpy b, 0xB6#8, .mem (.zpy b), 2, 4⟩,
    ⟨.ldxAbsy w, 0xBE#8, .mem (.absy w), 3, 4⟩ ]

/-- The encoding table of R123. -/
def ldyRows (b : Byte) (w : Word) : List DataRow :=
  [ ⟨.ldyImm b, 0xA0#8, .imm b, 2, 2⟩, ⟨.ldyZp b, 0xA4#8, .mem (.zp b), 2, 3⟩,
    ⟨.ldyAbs w, 0xAC#8, .mem (.abs w), 3, 4⟩, ⟨.ldyZpx b, 0xB4#8, .mem (.zpx b), 2, 4⟩,
    ⟨.ldyAbsx w, 0xBC#8, .mem (.absx w), 3, 4⟩ ]

/-- The encoding table of R124. -/
def staRows (b : Byte) (w : Word) : List MemRow :=
  [ ⟨.staIzx b, 0x81#8, .izx b, 2, 6⟩, ⟨.staZp b, 0x85#8, .zp b, 2, 3⟩,
    ⟨.staAbs w, 0x8D#8, .abs w, 3, 4⟩, ⟨.staIzy b, 0x91#8, .izy b, 2, 6⟩,
    ⟨.staZpx b, 0x95#8, .zpx b, 2, 4⟩, ⟨.staAbsy w, 0x99#8, .absy w, 3, 5⟩,
    ⟨.staAbsx w, 0x9D#8, .absx w, 3, 5⟩ ]

/-- The encoding table of R125. -/
def stxRows (b : Byte) (w : Word) : List MemRow :=
  [ ⟨.stxZp b, 0x86#8, .zp b, 2, 3⟩, ⟨.stxAbs w, 0x8E#8, .abs w, 3, 4⟩,
    ⟨.stxZpy b, 0x96#8, .zpy b, 2, 4⟩ ]

/-- The encoding table of R126. -/
def styRows (b : Byte) (w : Word) : List MemRow :=
  [ ⟨.styZp b, 0x84#8, .zp b, 2, 3⟩, ⟨.styAbs w, 0x8C#8, .abs w, 3, 4⟩,
    ⟨.styZpx b, 0x94#8, .zpx b, 2, 4⟩ ]

/-- The encoding table of R151. -/
def adcRows (b : Byte) (w : Word) : List DataRow :=
  [ ⟨.adcIzx b, 0x61#8, .mem (.izx b), 2, 6⟩, ⟨.adcZp b, 0x65#8, .mem (.zp b), 2, 3⟩,
    ⟨.adcImm b, 0x69#8, .imm b, 2, 2⟩, ⟨.adcAbs w, 0x6D#8, .mem (.abs w), 3, 4⟩,
    ⟨.adcIzy b, 0x71#8, .mem (.izy b), 2, 5⟩, ⟨.adcZpx b, 0x75#8, .mem (.zpx b), 2, 4⟩,
    ⟨.adcAbsy w, 0x79#8, .mem (.absy w), 3, 4⟩, ⟨.adcAbsx w, 0x7D#8, .mem (.absx w), 3, 4⟩ ]

/-- The encoding table of R152. -/
def sbcRows (b : Byte) (w : Word) : List DataRow :=
  [ ⟨.sbcIzx b, 0xE1#8, .mem (.izx b), 2, 6⟩, ⟨.sbcZp b, 0xE5#8, .mem (.zp b), 2, 3⟩,
    ⟨.sbcImm b, 0xE9#8, .imm b, 2, 2⟩, ⟨.sbcAbs w, 0xED#8, .mem (.abs w), 3, 4⟩,
    ⟨.sbcIzy b, 0xF1#8, .mem (.izy b), 2, 5⟩, ⟨.sbcZpx b, 0xF5#8, .mem (.zpx b), 2, 4⟩,
    ⟨.sbcAbsy w, 0xF9#8, .mem (.absy w), 3, 4⟩, ⟨.sbcAbsx w, 0xFD#8, .mem (.absx w), 3, 4⟩ ]

/-- The encoding table of R153. -/
def andRows (b : Byte) (w : Word) : List DataRow :=
  [ ⟨.andIzx b, 0x21#8, .mem (.izx b), 2, 6⟩, ⟨.andZp b, 0x25#8, .mem (.zp b), 2, 3⟩,
    ⟨.andImm b, 0x29#8, .imm b, 2, 2⟩, ⟨.andAbs w, 0x2D#8, .mem (.abs w), 3, 4⟩,
    ⟨.andIzy b, 0x31#8, .mem (.izy b), 2, 5⟩, ⟨.andZpx b, 0x35#8, .mem (.zpx b), 2, 4⟩,
    ⟨.andAbsy w, 0x39#8, .mem (.absy w), 3, 4⟩, ⟨.andAbsx w, 0x3D#8, .mem (.absx w), 3, 4⟩ ]

/-- The encoding table of R154. -/
def oraRows (b : Byte) (w : Word) : List DataRow :=
  [ ⟨.oraIzx b, 0x01#8, .mem (.izx b), 2, 6⟩, ⟨.oraZp b, 0x05#8, .mem (.zp b), 2, 3⟩,
    ⟨.oraImm b, 0x09#8, .imm b, 2, 2⟩, ⟨.oraAbs w, 0x0D#8, .mem (.abs w), 3, 4⟩,
    ⟨.oraIzy b, 0x11#8, .mem (.izy b), 2, 5⟩, ⟨.oraZpx b, 0x15#8, .mem (.zpx b), 2, 4⟩,
    ⟨.oraAbsy w, 0x19#8, .mem (.absy w), 3, 4⟩, ⟨.oraAbsx w, 0x1D#8, .mem (.absx w), 3, 4⟩ ]

/-- The encoding table of R155. -/
def eorRows (b : Byte) (w : Word) : List DataRow :=
  [ ⟨.eorIzx b, 0x41#8, .mem (.izx b), 2, 6⟩, ⟨.eorZp b, 0x45#8, .mem (.zp b), 2, 3⟩,
    ⟨.eorImm b, 0x49#8, .imm b, 2, 2⟩, ⟨.eorAbs w, 0x4D#8, .mem (.abs w), 3, 4⟩,
    ⟨.eorIzy b, 0x51#8, .mem (.izy b), 2, 5⟩, ⟨.eorZpx b, 0x55#8, .mem (.zpx b), 2, 4⟩,
    ⟨.eorAbsy w, 0x59#8, .mem (.absy w), 3, 4⟩, ⟨.eorAbsx w, 0x5D#8, .mem (.absx w), 3, 4⟩ ]

/-- The encoding table of R156. -/
def bitRows (b : Byte) (w : Word) : List DataRow :=
  [ ⟨.bitZp b, 0x24#8, .mem (.zp b), 2, 3⟩, ⟨.bitAbs w, 0x2C#8, .mem (.abs w), 3, 4⟩ ]

/-- The encoding table of R157. -/
def cmpRows (b : Byte) (w : Word) : List DataRow :=
  [ ⟨.cmpIzx b, 0xC1#8, .mem (.izx b), 2, 6⟩, ⟨.cmpZp b, 0xC5#8, .mem (.zp b), 2, 3⟩,
    ⟨.cmpImm b, 0xC9#8, .imm b, 2, 2⟩, ⟨.cmpAbs w, 0xCD#8, .mem (.abs w), 3, 4⟩,
    ⟨.cmpIzy b, 0xD1#8, .mem (.izy b), 2, 5⟩, ⟨.cmpZpx b, 0xD5#8, .mem (.zpx b), 2, 4⟩,
    ⟨.cmpAbsy w, 0xD9#8, .mem (.absy w), 3, 4⟩, ⟨.cmpAbsx w, 0xDD#8, .mem (.absx w), 3, 4⟩ ]

/-- The encoding table of R158. -/
def cpxRows (b : Byte) (w : Word) : List DataRow :=
  [ ⟨.cpxImm b, 0xE0#8, .imm b, 2, 2⟩, ⟨.cpxZp b, 0xE4#8, .mem (.zp b), 2, 3⟩,
    ⟨.cpxAbs w, 0xEC#8, .mem (.abs w), 3, 4⟩ ]

/-- The encoding table of R159. -/
def cpyRows (b : Byte) (w : Word) : List DataRow :=
  [ ⟨.cpyImm b, 0xC0#8, .imm b, 2, 2⟩, ⟨.cpyZp b, 0xC4#8, .mem (.zp b), 2, 3⟩,
    ⟨.cpyAbs w, 0xCC#8, .mem (.abs w), 3, 4⟩ ]

/-- The encoding table of R160. -/
def incRows (b : Byte) (w : Word) : List MemRow :=
  [ ⟨.incZp b, 0xE6#8, .zp b, 2, 5⟩, ⟨.incAbs w, 0xEE#8, .abs w, 3, 6⟩,
    ⟨.incZpx b, 0xF6#8, .zpx b, 2, 6⟩, ⟨.incAbsx w, 0xFE#8, .absx w, 3, 7⟩ ]

/-- The encoding table of R161. -/
def decRows (b : Byte) (w : Word) : List MemRow :=
  [ ⟨.decZp b, 0xC6#8, .zp b, 2, 5⟩, ⟨.decAbs w, 0xCE#8, .abs w, 3, 6⟩,
    ⟨.decZpx b, 0xD6#8, .zpx b, 2, 6⟩, ⟨.decAbsx w, 0xDE#8, .absx w, 3, 7⟩ ]

/-- The memory rows of the encoding table of R166. -/
def aslRows (b : Byte) (w : Word) : List MemRow :=
  [ ⟨.aslZp b, 0x06#8, .zp b, 2, 5⟩, ⟨.aslAbs w, 0x0E#8, .abs w, 3, 6⟩,
    ⟨.aslZpx b, 0x16#8, .zpx b, 2, 6⟩, ⟨.aslAbsx w, 0x1E#8, .absx w, 3, 7⟩ ]

/-- The memory rows of the encoding table of R167. -/
def lsrRows (b : Byte) (w : Word) : List MemRow :=
  [ ⟨.lsrZp b, 0x46#8, .zp b, 2, 5⟩, ⟨.lsrAbs w, 0x4E#8, .abs w, 3, 6⟩,
    ⟨.lsrZpx b, 0x56#8, .zpx b, 2, 6⟩, ⟨.lsrAbsx w, 0x5E#8, .absx w, 3, 7⟩ ]

/-- The memory rows of the encoding table of R168. -/
def rolRows (b : Byte) (w : Word) : List MemRow :=
  [ ⟨.rolZp b, 0x26#8, .zp b, 2, 5⟩, ⟨.rolAbs w, 0x2E#8, .abs w, 3, 6⟩,
    ⟨.rolZpx b, 0x36#8, .zpx b, 2, 6⟩, ⟨.rolAbsx w, 0x3E#8, .absx w, 3, 7⟩ ]

/-- The memory rows of the encoding table of R169. -/
def rorRows (b : Byte) (w : Word) : List MemRow :=
  [ ⟨.rorZp b, 0x66#8, .zp b, 2, 5⟩, ⟨.rorAbs w, 0x6E#8, .abs w, 3, 6⟩,
    ⟨.rorZpx b, 0x76#8, .zpx b, 2, 6⟩, ⟨.rorAbsx w, 0x7E#8, .absx w, 3, 7⟩ ]

end Sys2Proof.Machine
end

