-- ==== Sys2Proof/Certificates/Slice0/Obligations.lean ====
section
/-! DEFINITION. The statements for the provers. Each docstring names the rules of spec/ it comes from; "stated" ones
are listed with their rules in OBLIGATIONS.json. A frame is `AgreeExcept [pieces that may change] before after`; RAM
is compared through `State.ramByte`, one byte at a time. -/

open Sys2Proof Sys2Proof.Machine

/-! ### Encoding -/

/-- Instruction words written out from the spec's encodings, one or more per family (30_encoding.md R106). -/
def Obligations.SpecWordsDecode : Prop :=
  decode [0xB5#8, 0xF0#8] = .ok (.ldaZpx 0xF0#8, []) ∧ decode [0x9D#8, 0xFF#8, 0x12#8] = .ok (.staAbsx 0x12FF#16, []) ∧
  decode [0xAA#8] = .ok (.tax, []) ∧ decode [0x28#8] = .ok (.plp, []) ∧
  decode [0x71#8, 0x10#8] = .ok (.adcIzy 0x10#8, []) ∧ decode [0x2C#8, 0x00#8, 0x40#8] = .ok (.bitAbs 0x4000#16, []) ∧
  decode [0x6A#8] = .ok (.rorAcc, []) ∧ decode [0xD0#8, 0xFE#8] = .ok (.bne 0xFE#8, []) ∧
  decode [0x6C#8, 0xFF#8, 0x30#8] = .ok (.jmpInd 0x30FF#16, []) ∧ decode [0x00#8, 0xEA#8] = .ok (.brk, [0xEA#8]) ∧
  decode [0xB8#8] = .ok (.clv, []) ∧ decode [0x02#8] = .error (.illegalOpcode 0x02#8)

/-- Every instruction is well formed, and the decoder reads back what the encoder wrote, whatever bytes follow
(30_encoding.md R90, R106). -/
def Obligations.DecodeReadsBackEncode : Prop :=
  ∀ (i : Instr) (rest : List Byte), i.wf = true ∧ decode (encode i ++ rest) = .ok (i, rest)

/-- What the decoder accepts is an encoding: no bit of the bytes it takes is dropped (30_encoding.md R90, R106). -/
def Obligations.EncodeReadsBackDecode : Prop :=
  ∀ (bytes rest : List Byte) (i : Instr), decode bytes = .ok (i, rest) → bytes = encode i ++ rest

/-- The decoder rejects as illegal exactly the opcodes R107 lists; for every other opcode it takes exactly as many
operand bytes as R90 and R109 say, or says that they are missing. -/
def Obligations.IllegalOpcodesAreThoseListed : Prop :=
  illegalOpcodes.length = 105 ∧
  ∀ (op : Byte) (rest : List Byte),
    (op ∈ illegalOpcodes → decode (op :: rest) = .error (.illegalOpcode op)) ∧
    (op ∉ illegalOpcodes → operandCount op ≤ rest.length →
      ∃ i, decode (op :: rest) = .ok (i, rest.drop (operandCount op)) ∧ i.opcode = op) ∧
    (op ∉ illegalOpcodes → rest.length < operandCount op → decode (op :: rest) = .error (.truncated op))

/-! ### The step, the halt and the interrupts -/

/-- No step ends in a fault or a refusal (00_scope.md R10, 40_load_store_transfer.md R120 (e), (f)). -/
def Obligations.EveryStepAnswersNext : Prop := ∀ s : State, ∃ t, step s = .next t

/-- With no interrupt to take, a step of a running machine fetches the bytes at PC one bus read after another and runs
the instruction they decode to; then each chip advances by the cycles that instruction counted, and nothing else
changes (60_exceptions.md R231, R244; 30_encoding.md R105; 20_memory.md R72). -/
def Obligations.StepRunsTheFetchedInstruction : Prop :=
  ∀ (s : State) (i : Instr) (rest : List Byte), s.run = .running → s.takesNmi = false → s.takesIrq = false →
    decode s.codeBytes = .ok (i, rest) →
    ∃ t u, exec i (s.beginStep.afterReads (encode i).length s.pc) = .next t ∧ step s = .next u ∧
      u.timer0 = Timer.ticks (t.cycles - s.cycles) t.timer0 ∧ u.timer1 = Timer.ticks (t.cycles - s.cycles) t.timer1 ∧
      u.video = Video.ticks s.params (t.cycles - s.cycles) t.video ∧ AgreeExcept [.timer0, .timer1, .video] t u

/-- A fetch of an illegal opcode halts the core and changes nothing else but the read effect of the fetch: no cycles,
no chip advance, PC at the opcode (30_encoding.md R107; 60_exceptions.md R239). That it writes nothing is said of
`busWrites`, the model's own list (log 9). -/
def Obligations.IllegalOpcodeHalts : Prop :=
  ∀ s : State, s.run = .running → s.takesNmi = false → s.takesIrq = false → s.peek s.pc ∈ illegalOpcodes →
    ∃ t, step s = .next t ∧ t.run = .halted (s.peek s.pc) s.pc ∧ t.busWrites = [] ∧
      AgreeExcept [.run, .busWrites] (s.afterRead s.pc) t

/-- The halt is sticky: however many steps follow, nothing changes; a reset leaves it (60_exceptions.md R240, R248). -/
def Obligations.HaltIsSticky : Prop :=
  ∀ (s : State) (op : Byte) (a : Word), s.run = .halted op a →
    (∀ k, Host.Core.run core k s = .next s) ∧ ∀ draw, (s.resetEvent draw).run = .running

/-- The interrupt lines: a source's line is pending and enabled; NMI is the OR over NMI_SOURCES, IRQ over the others
(60_exceptions.md R245). -/
def Obligations.InterruptLines : Prop :=
  ∀ s : State,
    (s.irqLine = true ↔
      (s.params.nmiTimer0 = false ∧ s.timer0.pending = true ∧ s.timer0.irqEnable = true) ∨
      (s.params.nmiTimer1 = false ∧ s.timer1.pending = true ∧ s.timer1.irqEnable = true) ∨
      (s.params.nmiVideo = false ∧ s.video.pending = true ∧ s.video.irqEnable = true)) ∧
    (s.nmiLine = true ↔
      (s.params.nmiTimer0 = true ∧ s.timer0.pending = true ∧ s.timer0.irqEnable = true) ∨
      (s.params.nmiTimer1 = true ∧ s.timer1.pending = true ∧ s.timer1.irqEnable = true) ∨
      (s.params.nmiVideo = true ∧ s.video.pending = true ∧ s.video.irqEnable = true))

/-- At a sampling point NMI goes before IRQ and IRQ before the instruction: an asserted NMI not in service is entered
through $FFFA and marks itself in service; else an asserted IRQ with I = 0 is entered through $FFFE and does not. The
entry pushes PC and PackP(0), sets I, leaves D, takes 7 cycles, and the chips advance by 7
(60_exceptions.md R232 to R237). -/
def Obligations.InterruptEntry : Prop :=
  ∀ s : State, s.wf = true → s.run = .running →
    (s.nmiLine = true ∧ s.nmiInService = false ∨ s.irqLine = true ∧ s.flags.i = false) →
    ∃ t, step s = .next t ∧ Pushed3 s t s.pc (packP false s.flags) ∧ t.flags = { s.flags with i := true } ∧
      t.cycles = s.cycles + 7 ∧ t.timer0 = Timer.ticks 7 s.timer0 ∧ t.timer1 = Timer.ticks 7 s.timer1 ∧
      t.video = Video.ticks s.params 7 s.video ∧
      (if s.nmiLine = true ∧ s.nmiInService = false then t.pc = s.vectorAt 0xFFFA#16 ∧ t.nmiInService = true
        else t.pc = s.vectorAt 0xFFFE#16 ∧ t.nmiInService = s.nmiInService) ∧
      AgreeExcept [.sp, .pc, .i, .nmiInService, .cycles, .ram, .timer0, .timer1, .video, .busWrites] s t

/-- What a sampling point takes: NMI if its line is asserted and none is in service; else IRQ if its line is asserted
and I = 0, as I stands; else nothing. With no NMI source, the default, NMI is never taken
(60_exceptions.md R232, R233). -/
def Obligations.InterruptSampling : Prop :=
  ∀ s : State,
    (s.takesNmi = true ↔ s.nmiLine = true ∧ s.nmiInService = false) ∧
    (s.takesIrq = true ↔ s.irqLine = true ∧ s.flags.i = false ∧ s.takesNmi = false) ∧
    (s.interruptEntry = none ↔ s.takesNmi = false ∧ s.takesIrq = false) ∧
    (s.params.nmiTimer0 = false → s.params.nmiTimer1 = false → s.params.nmiVideo = false → s.takesNmi = false)

/-- With no NMI source, the default, no step of a running machine puts an NMI in service (60_exceptions.md R233). -/
def Obligations.NoNmiWithoutSources : Prop :=
  ∀ s t : State, s.params.nmiTimer0 = false → s.params.nmiTimer1 = false → s.params.nmiVideo = false →
    s.nmiInService = false → step s = .next t → t.nmiInService = false ∧ t.params = s.params

/-- Return from interrupt undoes the entry: whatever the handler did, if S and the three stack bytes are as the entry
left them, RTI restores PC, S and all six flags of the interrupted program, and the NMI is no longer in service
(60_exceptions.md R242). -/
def Obligations.ReturnRestoresTheInterruptedProgram : Prop :=
  ∀ s t h : State, s.wf = true → s.run = .running →
    (s.nmiLine = true ∧ s.nmiInService = false ∨ s.irqLine = true ∧ s.flags.i = false) → step s = .next t →
    h.sp = t.sp → (∀ k ∈ [s.sp, s.sp - 1#8, s.sp - 2#8], h.ramByte (stackAddr k) = t.ramByte (stackAddr k)) →
    ∃ u, exec .rti h = .next u ∧ u.pc = s.pc ∧ u.sp = s.sp ∧ u.flags = s.flags ∧ u.nmiInService = false

/-! ### Reset -/

/-- The reset sequence, for every machine and every draw (70_reset_and_hazards.md R302, R303). -/
def Obligations.ResetSequence : Prop :=
  ∀ (s : State) (draw : ResetDraw), Memory.wf s.ram = true →
    let t := s.resetEvent draw
    t.a = draw.a ∧ t.x = draw.x ∧ t.y = draw.y ∧ t.sp = draw.sp ∧
    t.flags = { n := draw.n, v := draw.v, d := draw.d, i := true, z := draw.z, c := draw.c } ∧
    t.run = .running ∧ t.nmiInService = false ∧ t.cycles = 0 ∧
    (t.timer0 = ⟨0xFFFF#16, 0xFFFF#16, false, false, 0x00#8, false, false⟩ ∧ t.timer1 = t.timer0) ∧
    t.video = ⟨0, 0, 0, false, false, 0⟩ ∧
    t.ramByte 0x0001#16 = s.ramByte 0x0001#16 ||| 0x07#8 ∧ SameRamBut [0x0001#16] s t ∧
    t.rom = s.rom ∧ t.params = s.params ∧
    t.pc = wordOf (s.kernalByte 0x1FFD) (s.kernalByte 0x1FFC)

/-- After a reset PC is the reset vector whatever ran before: two machines with one KERNAL image start alike, and no
interrupt is taken (70_reset_and_hazards.md R302; 95_test_vectors.md T8). -/
def Obligations.ResetForgetsTheHistory : Prop :=
  ∀ (s s' : State) (draw draw' : ResetDraw), Memory.wf s.ram = true → Memory.wf s'.ram = true →
    s.rom.kernal = s'.rom.kernal →
    (s.resetEvent draw).pc = (s'.resetEvent draw').pc ∧
    (s.resetEvent draw).takesNmi = false ∧ (s.resetEvent draw).takesIrq = false

/-- The reset state meets the invariant, and what the spec fixes of the state after reset holds of it
(70_reset_and_hazards.md R304 "Defined"). Its parameters, ROM images, drawn registers and RAM are the model's choices
(log 2 to 5), and of those only that they meet the invariant is said. -/
def Obligations.ResetStateIsWellFormed : Prop :=
  State.reset.wf = true ∧
  State.reset.flags.i = true ∧ State.reset.pc = State.reset.vectorAt 0xFFFC#16 ∧ State.reset.run = .running ∧
  State.reset.nmiInService = false ∧ State.reset.cycles = 0 ∧
  State.reset.loram = true ∧ State.reset.hiram = true ∧ State.reset.charen = true ∧
  (State.reset.timer0.running = false ∧ State.reset.timer0.latch = 0xFFFF#16 ∧ State.reset.timer0.counter = 0xFFFF#16 ∧
    State.reset.timer0.irqEnable = false ∧ State.reset.timer1 = State.reset.timer0) ∧
  State.reset.video.raster = 0 ∧ State.reset.video.irqEnable = false

/-- Power-on builds a machine only of ROM images of the right sizes: the construction rejects another
(93_implementation_defined.md K11; as `none`, log 13). What it builds is a running machine that meets the invariant
(70_reset_and_hazards.md R301). -/
def Obligations.PowerOnBuildsAWellFormedMachine : Prop :=
  ∀ (p : Params) (initRam basic kernal char : List Byte) (draw : ResetDraw),
    (p.wf = true → initRam.length = 65536 → basic.length = 8192 → kernal.length = 8192 → char.length = 4096 →
      ∃ t, State.powerOn p initRam basic kernal char draw = some t ∧ t.wf = true ∧ t.run = .running ∧ t.params = p) ∧
    (basic.length ≠ 8192 ∨ kernal.length ≠ 8192 ∨ char.length ≠ 4096 →
      State.powerOn p initRam basic kernal char draw = none)

/-! ### Invariants over steps -/

/-- Every step keeps the invariant, and so does a reset, whatever the draw. -/
def Obligations.StepKeepsWellFormed : Prop :=
  (∀ s t : State, s.wf = true → step s = .next t → t.wf = true) ∧
  ∀ (s : State) (draw : ResetDraw), s.wf = true → (s.resetEvent draw).wf = true

/-- Memory changes only by CPU writes: no step changes a ROM image or a parameter, and a byte of RAM that a step of a
running machine changes lies at an address the step wrote (10_state.md R41; 20_memory.md R68, R69; 60_exceptions.md
R283). What a step wrote is `busWrites`, the model's own list (log 9). -/
def Obligations.MemoryChangesOnlyWhereWritten : Prop :=
  ∀ s t : State, step s = .next t →
    t.rom = s.rom ∧ t.params = s.params ∧ (s.run = .running → SameRamBut t.busWrites s t)

/-- A step of a running machine either halts with no cycle counted or counts 2 to 7 of them (30_encoding.md R110 to
R113, 60_exceptions.md R236). -/
def Obligations.StepCyclesAreBounded : Prop :=
  ∀ s t : State, s.run = .running → step s = .next t →
    (t.run ≠ .running ∧ t.cycles = s.cycles) ∨
    (t.run = .running ∧ s.cycles + 2 ≤ t.cycles ∧ t.cycles ≤ s.cycles + 7)

/-- Which instructions may change which register and flag (10_state.md R35, R47). -/
def Obligations.RegistersChangeOnlyAsListed : Prop :=
  ∀ (i : Instr) (s t : State), exec i s = .next t →
    (t.a ≠ s.a → i.mnemonic ∈ [.lda, .txa, .tya, .pla, .adc, .sbc, .and, .ora, .eor] ∨
      i.mnemonic ∈ [.asl, .lsr, .rol, .ror] ∧ i.mode = .acc) ∧
    (t.x ≠ s.x → i.mnemonic ∈ [.ldx, .tax, .tsx, .inx, .dex]) ∧
    (t.y ≠ s.y → i.mnemonic ∈ [.ldy, .tay, .iny, .dey]) ∧
    (t.sp ≠ s.sp → i.mnemonic ∈ [.txs, .pha, .php, .pla, .plp, .jsr, .rts, .rti, .brk]) ∧
    (t.flags.c ≠ s.flags.c →
      i.mnemonic ∈ [.adc, .sbc, .cmp, .cpx, .cpy, .asl, .lsr, .rol, .ror, .clc, .sec, .plp, .rti]) ∧
    (t.flags.v ≠ s.flags.v → i.mnemonic ∈ [.adc, .sbc, .bit, .clv, .plp, .rti]) ∧
    (t.flags.d ≠ s.flags.d → i.mnemonic ∈ [.sed, .cld, .plp, .rti]) ∧
    (t.flags.i ≠ s.flags.i → i.mnemonic ∈ [.sei, .cli, .plp, .rti, .brk]) ∧
    (t.flags.n ≠ s.flags.n ∨ t.flags.z ≠ s.flags.z →
      i.mnemonic ∈ [.lda, .ldx, .ldy, .tax, .tay, .txa, .tya, .tsx, .pla, .adc, .sbc, .and, .ora, .eor, .cmp, .cpx,
        .cpy, .inc, .dec, .inx, .iny, .dex, .dey, .asl, .lsr, .rol, .ror, .bit, .plp, .rti])

/-! ### The address bus -/

/-- The memory map: which addresses reach what, for every bank setting (20_memory.md R54, R59). -/
def Obligations.MemoryMap : Prop :=
  ∀ (a : Word) (loram hiram charen : Bool),
    (region a loram hiram charen = .basicRom ↔
      0xA000 ≤ a.toNat ∧ a.toNat ≤ 0xBFFF ∧ loram = true ∧ hiram = true) ∧
    (region a loram hiram charen = .kernalRom ↔ 0xE000 ≤ a.toNat ∧ hiram = true) ∧
    (region a loram hiram charen = .charRom ↔
      0xD000 ≤ a.toNat ∧ a.toNat ≤ 0xDFFF ∧ charen = false ∧ (loram = true ∨ hiram = true)) ∧
    (region a loram hiram charen = .video ↔
      0xD000 ≤ a.toNat ∧ a.toNat ≤ 0xD3FF ∧ charen = true ∧ (loram = true ∨ hiram = true)) ∧
    (region a loram hiram charen = .timer0 ↔
      0xDC00 ≤ a.toNat ∧ a.toNat ≤ 0xDCFF ∧ charen = true ∧ (loram = true ∨ hiram = true)) ∧
    (region a loram hiram charen = .timer1 ↔
      0xDD00 ≤ a.toNat ∧ a.toNat ≤ 0xDDFF ∧ charen = true ∧ (loram = true ∨ hiram = true)) ∧
    (a.toNat ≤ 0x9FFF ∨ 0xC000 ≤ a.toNat ∧ a.toNat ≤ 0xCFFF → region a loram hiram charen = .ram) ∧
    (0xD400 ≤ a.toNat ∧ a.toNat ≤ 0xDBFF ∨ 0xDE00 ≤ a.toNat ∧ a.toNat ≤ 0xDFFF → charen = true →
      region a loram hiram charen = .ram) ∧
    (0xA000 ≤ a.toNat → a.toNat ≤ 0xBFFF → ¬(loram = true ∧ hiram = true) → region a loram hiram charen = .ram) ∧
    (0xE000 ≤ a.toNat → hiram = false → region a loram hiram charen = .ram) ∧
    (loram = false → hiram = false → region a loram hiram charen = .ram)

/-- A read of RAM or ROM returns the byte there and has no effect; in the windows a read returns the chip's register
(20_memory.md R56, R63, R58). The read index handed to a chip's register is the model's `drawIndex` (log 6, 8). -/
def Obligations.BusReads : Prop :=
  ∀ (s : State) (a : Word),
    match s.regionOf a with
    | .ram => s.busRead a = (s.ramByte a, s)
    | .basicRom => s.busRead a = (s.basicByte (a.toNat - 0xA000), s)
    | .kernalRom => s.busRead a = (s.kernalByte (a.toNat - 0xE000), s)
    | .charRom => s.busRead a = (s.charByte (a.toNat - 0xD000), s)
    | .video =>
      (s.busRead a).1 = s.video.readByte (BitVec.ofNat 6 (a.toNat % 64)) s.drawIndex ∧
        AgreeExcept [.video, .drawIndex] s (s.busRead a).2
    | .timer0 =>
      (s.busRead a).1 = s.timer0.readByte .timer0 (BitVec.ofNat 4 (a.toNat % 16)) s.drawIndex ∧
        AgreeExcept [.timer0, .drawIndex] s (s.busRead a).2
    | .timer1 =>
      (s.busRead a).1 = s.timer1.readByte .timer1 (BitVec.ofNat 4 (a.toNat % 16)) s.drawIndex ∧
        AgreeExcept [.timer1, .drawIndex] s (s.busRead a).2

/-- A write to RAM puts the byte there and nowhere else; a write to a mapped ROM changes neither ROM nor RAM; a write
into a window changes the chip and not RAM (20_memory.md R57). That every write is listed for the watchpoints
(60_exceptions.md R283) is said of `busWrites`, the model's own list (log 9). -/
def Obligations.BusWrites : Prop :=
  ∀ (s : State) (a : Word) (v : Byte), Memory.wf s.ram = true →
    (s.busWrite a v).busWrites = a :: s.busWrites ∧
    match s.regionOf a with
    | .ram => (s.busWrite a v).ramByte a = v ∧ SameRamBut [a] s (s.busWrite a v) ∧
        AgreeExcept [.ram, .busWrites] s (s.busWrite a v)
    | .basicRom | .kernalRom | .charRom => AgreeExcept [.busWrites] s (s.busWrite a v)
    | .video => (s.busWrite a v).video = s.video.write (BitVec.ofNat 6 (a.toNat % 64)) v ∧
        AgreeExcept [.video, .busWrites] s (s.busWrite a v)
    | .timer0 => (s.busWrite a v).timer0 = s.timer0.write (BitVec.ofNat 4 (a.toNat % 16)) v ∧
        AgreeExcept [.timer0, .busWrites] s (s.busWrite a v)
    | .timer1 => (s.busWrite a v).timer1 = s.timer1.write (BitVec.ofNat 4 (a.toNat % 16)) v ∧
        AgreeExcept [.timer1, .busWrites] s (s.busWrite a v)

/-- A write to $0001 goes to RAM whatever is mapped and decodes the very next access with its low three bits
(20_memory.md R53). -/
def Obligations.BankBitsTakeEffectAtOnce : Prop :=
  ∀ (s : State) (v : Byte) (a : Word), Memory.wf s.ram = true →
    (s.busWrite 0x0001#16 v).ramByte 0x0001#16 = v ∧
    (s.busWrite 0x0001#16 v).regionOf a = region a (v.getLsbD 0) (v.getLsbD 1) (v.getLsbD 2)

/-- Effective addresses of the eight memory forms, with their wraps and page crossings; pointers lie in page zero,
which is RAM (30_encoding.md R95 to R100, R102, R103). -/
def Obligations.EffectiveAddresses : Prop :=
  ∀ (s : State) (b : Byte) (w : Word),
    let pointer (z : Byte) : Nat :=
      (s.ramByte (BitVec.ofNat 16 ((z.toNat + 1) % 256))).toNat * 256 + (s.ramByte (BitVec.ofNat 16 z.toNat)).toNat
    let zeroPage (m : MemMode) (addr : Nat) : Prop :=
      (resolve m s).addr.toNat = addr ∧ (resolve m s).cross = false ∧ (resolve m s).st = s
    let indexedBy (m : MemMode) (base : Nat) (index : Byte) : Prop :=
      (resolve m s).addr.toNat = (base + index.toNat) % 65536 ∧ (resolve m s).st = s ∧
        ((resolve m s).cross = true ↔ (base + index.toNat) % 65536 / 256 ≠ base / 256)
    zeroPage (.zp b) b.toNat ∧ zeroPage (.zpx b) ((b.toNat + s.x.toNat) % 256) ∧
    zeroPage (.zpy b) ((b.toNat + s.y.toNat) % 256) ∧ zeroPage (.abs w) w.toNat ∧
    indexedBy (.absx w) w.toNat s.x ∧ indexedBy (.absy w) w.toNat s.y ∧
    zeroPage (.izx b) (pointer (b + s.x)) ∧ indexedBy (.izy b) (pointer b) s.y

/-- A source operand is the operand byte, or the byte a bus read of the effective address returns, read once
(40_load_store_transfer.md R120 (c), 30_encoding.md R94). -/
def Obligations.OperandIsReadOnce : Prop :=
  ∀ (s : State) (b : Byte) (m : MemMode),
    operand (.imm b) s = ⟨b, false, s⟩ ∧
    (operand (.mem m) s).val = s.peek (resolve m s).addr ∧
    (operand (.mem m) s).cross = (resolve m s).cross ∧
    (operand (.mem m) s).st = s.afterRead (resolve m s).addr ∧
    AgreeExcept [.timer0, .timer1, .video, .drawIndex] s (operand (.mem m) s).st ∧
    (s.isChip (resolve m s).addr = false → (operand (.mem m) s).st = s)

/-! ### The chips -/

/-- Reads of the registers of either timer chip: live counter bytes, the control byte with bit 4 as 0, and the status
byte, whose read returns the pre-clear value and clears `pending`; a second read right after reports nothing pending
(60_exceptions.md R252 to R254). The drawn bits are free, their read index is the model's `drawIndex` (log 6, 8). -/
def Obligations.TimerRegisterReads : Prop :=
  ∀ (s : State) (a : Word) (second : Bool),
    let chip (u : State) : Timer := if second then u.timer1 else u.timer0
    let name : Chip := if second then .timer1 else .timer0
    s.regionOf a = (if second then .timer1 else .timer0) → (chip s).wf = true →
    (a.toNat % 16 = 4 → s.busRead a = ((chip s).counter.setWidth 8, s)) ∧
    (a.toNat % 16 = 5 → s.busRead a = (((chip s).counter >>> 8).setWidth 8, s)) ∧
    (a.toNat % 16 = 14 → (s.busRead a).2 = s ∧
      (s.busRead a).1 &&& 0xE6#8 = (chip s).ctrlOther ∧ (s.busRead a).1.getLsbD 4 = false ∧
      (s.busRead a).1.getLsbD 3 = (chip s).oneshot ∧ (s.busRead a).1.getLsbD 0 = (chip s).running) ∧
    (a.toNat % 16 = 13 →
      (s.busRead a).1.getLsbD 7 = ((chip s).pending && (chip s).irqEnable) ∧
      (s.busRead a).1.getLsbD 0 = (chip s).pending ∧
      (∀ k, 1 ≤ k → k ≤ 6 → (s.busRead a).1.getLsbD k = (Config.ioDraw name 13 s.drawIndex).getLsbD k) ∧
      chip (s.busRead a).2 = { chip s with pending := false } ∧
      (s.busRead a).2.drawIndex = s.drawIndex + 1 ∧
      AgreeExcept [if second then .timer1 else .timer0, .drawIndex] s (s.busRead a).2 ∧
      ((s.busRead a).2.busRead a).1.getLsbD 7 = false ∧ ((s.busRead a).2.busRead a).1.getLsbD 0 = false)

/-- Writes of the registers of either timer chip: the latch bytes, the load of a stopped counter, the enable by bits 0
and 7, and the control byte with its force load (60_exceptions.md R255 to R257). -/
def Obligations.TimerRegisterWrites : Prop :=
  ∀ (s : State) (a : Word) (v : Byte) (second : Bool),
    s.regionOf a = (if second then .timer1 else .timer0) →
    let t := if second then s.timer1 else s.timer0
    let u := if second then (s.busWrite a v).timer1 else (s.busWrite a v).timer0
    (a.toNat % 16 = 4 → u.latch.toNat = t.latch.toNat / 256 * 256 + v.toNat ∧ u = { t with latch := u.latch }) ∧
    (a.toNat % 16 = 5 → u.latch.toNat = v.toNat * 256 + t.latch.toNat % 256 ∧
      (t.running = true → u = { t with latch := u.latch }) ∧
      (t.running = false → u = { t with latch := u.latch, counter := u.latch })) ∧
    (a.toNat % 16 = 13 → u = if v.getLsbD 0 = true then { t with irqEnable := v.getLsbD 7 } else t) ∧
    (a.toNat % 16 = 14 → u.running = v.getLsbD 0 ∧ u.oneshot = v.getLsbD 3 ∧ u.ctrlOther = v &&& 0xE6#8 ∧
      u.counter = (if v.getLsbD 4 = true then t.latch else t.counter) ∧
      u.latch = t.latch ∧ u.irqEnable = t.irqEnable ∧ u.pending = t.pending)

/-- A read of an unmodelled register of any chip is a fresh draw: the byte is the draw at the index, and the index
moves on; nothing else changes, and a write has no effect on any chip or on RAM (60_exceptions.md R261, R275). The
draw's read index is the model's field `drawIndex` (log 6, 8). -/
def Obligations.UnmodelledRegistersAreDraws : Prop :=
  ∀ (s : State) (a : Word) (v : Byte) (chip : Chip) (off : Nat),
    (s.regionOf a = .timer0 ∧ chip = .timer0 ∧ off = a.toNat % 16 ∧ off ∉ [4, 5, 13, 14] ∨
      s.regionOf a = .timer1 ∧ chip = .timer1 ∧ off = a.toNat % 16 ∧ off ∉ [4, 5, 13, 14] ∨
      s.regionOf a = .video ∧ chip = .video ∧ off = a.toNat % 64 ∧ off ∉ [0x11, 0x12, 0x19, 0x1A]) →
    (s.busRead a).1 = Config.ioDraw chip off s.drawIndex ∧ (s.busRead a).2.drawIndex = s.drawIndex + 1 ∧
    AgreeExcept [.drawIndex] s (s.busRead a).2 ∧ AgreeExcept [.busWrites] s (s.busWrite a v)

/-- Reads of the video registers: the raster line's bit 8 with the stored bits, its low byte, the status byte, whose
read clears `pending`, and the enable (60_exceptions.md R267 to R270). The drawn bits are free (log 6, 8). -/
def Obligations.VideoRegisterReads : Prop :=
  ∀ (s : State) (a : Word), s.regionOf a = .video →
    (a.toNat % 64 = 0x11 → (s.busRead a).2 = s ∧
      (s.busRead a).1.toNat = s.video.raster.toNat / 256 * 128 + s.video.ctrl1Low.toNat) ∧
    (a.toNat % 64 = 0x12 → (s.busRead a).2 = s ∧ (s.busRead a).1.toNat = s.video.raster.toNat % 256) ∧
    (a.toNat % 64 = 0x19 →
      (s.busRead a).1.getLsbD 7 = (s.video.pending && s.video.irqEnable) ∧
      (s.busRead a).1.getLsbD 0 = s.video.pending ∧
      (∀ k, 1 ≤ k → k ≤ 6 → (s.busRead a).1.getLsbD k = (Config.ioDraw .video 0x19 s.drawIndex).getLsbD k) ∧
      (s.busRead a).2.video = { s.video with pending := false } ∧ AgreeExcept [.video, .drawIndex] s (s.busRead a).2 ∧
      ((s.busRead a).2.busRead a).1.getLsbD 7 = false ∧ ((s.busRead a).2.busRead a).1.getLsbD 0 = false) ∧
    (a.toNat % 64 = 0x1A →
      (s.busRead a).1.getLsbD 0 = s.video.irqEnable ∧ AgreeExcept [.drawIndex] s (s.busRead a).2 ∧
      (∀ k, 1 ≤ k → k ≤ 7 → (s.busRead a).1.getLsbD k = (Config.ioDraw .video 0x1A s.drawIndex).getLsbD k))

/-- Writes of the video registers: the compare latch's two parts, the acknowledge, the enable
(60_exceptions.md R271 to R274). -/
def Obligations.VideoRegisterWrites : Prop :=
  ∀ (s : State) (a : Word) (b : Byte), s.regionOf a = .video →
    let v := s.video
    let u := (s.busWrite a b).video
    (a.toNat % 64 = 0x11 → u.compare.toNat = b.toNat / 128 * 256 + v.compare.toNat % 256 ∧
      u.ctrl1Low.toNat = b.toNat % 128 ∧ u = { v with compare := u.compare, ctrl1Low := u.ctrl1Low }) ∧
    (a.toNat % 64 = 0x12 → u.compare.toNat = v.compare.toNat / 256 * 256 + b.toNat ∧
      u = { v with compare := u.compare }) ∧
    (a.toNat % 64 = 0x19 → u = if b.getLsbD 0 = true then { v with pending := false } else v) ∧
    (a.toNat % 64 = 0x1A → u = { v with irqEnable := b.getLsbD 0 })

/-- A running timer counts down one a tick and underflows on the tick that takes it to 0: with the counter at N ≥ 1
(or at 0, which counts as 65,536) that is the N-th tick; then it holds the latch, `pending` is set if enabled, and a
one-shot timer stops. In continuous mode the period is `latch` ticks, 65,536 for a latch of 0. A stopped timer does
not tick (60_exceptions.md R258). -/
def Obligations.TimerUnderflowsOnTheNthTick : Prop :=
  ∀ t : Timer,
    (t.running = false → ∀ k, Timer.ticks k t = t) ∧
    (t.running = true →
      let n := if t.counter = 0#16 then 65536 else t.counter.toNat
      (∀ k, k < n → Timer.ticks k t = { t with counter := t.counter - BitVec.ofNat 16 k }) ∧
      Timer.ticks n t =
        { t with counter := t.latch, pending := t.pending || t.irqEnable, running := !t.oneshot }) ∧
    (t.running = true → t.oneshot = false → t.counter = t.latch →
      ∀ periods, Timer.ticks ((periods + 1) * (if t.latch = 0#16 then 65536 else t.latch.toNat)) t =
        { t with pending := t.pending || t.irqEnable })

/-- The batch form of the video chip's advance gives the same state as that many ticks (60_exceptions.md R276). -/
def Obligations.VideoBatchEqualsTicks : Prop :=
  ∀ (p : Params) (v : Video) (c : Nat), p.wf = true → v.wf p = true → Video.advance p c v = Video.ticks p c v

/-- The raster line in closed form: c cycles advance it by the whole lines they fill, modulo the lines of a frame
(60_exceptions.md R276). -/
def Obligations.RasterLineInClosedForm : Prop :=
  ∀ (p : Params) (v : Video) (c : Nat), p.wf = true → v.wf p = true →
    (Video.ticks p c v).raster.toNat = (v.raster.toNat + (v.lineAcc + c) / p.cyclesPerLine) % p.linesPerFrame ∧
    (Video.ticks p c v).lineAcc = (v.lineAcc + c) % p.cyclesPerLine ∧
    (Video.ticks p c v).compare = v.compare ∧ (Video.ticks p c v).ctrl1Low = v.ctrl1Low ∧
    (Video.ticks p c v).irqEnable = v.irqEnable

/-- The raster match: a tick sets `pending` exactly when it advances the line to the compare value while enabled, and
no tick clears it; no write of the compare or the enable sets it (60_exceptions.md R277). -/
def Obligations.RasterMatchOnLineAdvanceOnly : Prop :=
  ∀ (p : Params) (v : Video), p.wf = true → v.wf p = true →
    ((v.tick p).pending = true ↔ v.pending = true ∨
      (v.lineAcc + 1 = p.cyclesPerLine ∧ v.irqEnable = true ∧
        v.compare.toNat = (v.raster.toNat + 1) % p.linesPerFrame)) ∧
    ∀ (off : BitVec 6) (b : Byte), v.pending = false → (v.write off b).pending = false

/-! ### Loads, stores, transfers, stack -/

/-- LDA, LDX, LDY in every mode: the register takes the operand, N and Z follow it, nothing else changes
(40_load_store_transfer.md R121, R122, R123). -/
def Obligations.LoadRules : Prop :=
  ∀ (b : Byte) (w : Word) (s : State),
    (∀ r ∈ ldaRows b w, r.Encoded ∧ ∃ t, exec r.instr s = .next t ∧ t.a = (operand r.src s).val ∧ NZ t.a t ∧
      r.Ends s t ∧ AgreeExcept [.a, .n, .z, .pc, .cycles] (operand r.src s).st t) ∧
    (∀ r ∈ ldxRows b w, r.Encoded ∧ ∃ t, exec r.instr s = .next t ∧ t.x = (operand r.src s).val ∧ NZ t.x t ∧
      r.Ends s t ∧ AgreeExcept [.x, .n, .z, .pc, .cycles] (operand r.src s).st t) ∧
    (∀ r ∈ ldyRows b w, r.Encoded ∧ ∃ t, exec r.instr s = .next t ∧ t.y = (operand r.src s).val ∧ NZ t.y t ∧
      r.Ends s t ∧ AgreeExcept [.y, .n, .z, .pc, .cycles] (operand r.src s).st t)

/-- STA, STX, STY in every mode: one bus write of the register at the effective address, which is not read; no flag
and no register changes, and no byte of RAM but the one stored to (40_load_store_transfer.md R124, R125, R126). -/
def Obligations.StoreRules : Prop :=
  ∀ (b : Byte) (w : Word) (s : State),
    let store (r : MemRow) (v : Byte) : Prop :=
      r.Encoded ∧ ∃ t, exec r.instr s = .next t ∧ r.Ends s t ∧
        AgreeExcept [.pc, .cycles] ((resolve r.mem s).st.busWrite (resolve r.mem s).addr v) t ∧
        SameRamBut [(resolve r.mem s).addr] s t ∧
        AgreeExcept [.pc, .cycles, .ram, .timer0, .timer1, .video, .busWrites] (resolve r.mem s).st t
    (∀ r ∈ staRows b w, store r s.a) ∧ (∀ r ∈ stxRows b w, store r s.x) ∧ (∀ r ∈ styRows b w, store r s.y)

/-- The transfers: TAX, TAY, TXA, TYA and TSX set N and Z, TXS sets no flag
(40_load_store_transfer.md R127 to R132). -/
def Obligations.TransferRules : Prop :=
  ∀ s : State,
    let ends (i : Instr) (op : Byte) (t : State) : Prop :=
      encode i = [op] ∧ exec i s = .next t ∧ t.pc = s.pc + 1#16 ∧ t.cycles = s.cycles + 2
    (∃ t, ends .tax 0xAA#8 t ∧ t.x = s.a ∧ NZ s.a t ∧ AgreeExcept [.x, .n, .z, .pc, .cycles] s t) ∧
    (∃ t, ends .tay 0xA8#8 t ∧ t.y = s.a ∧ NZ s.a t ∧ AgreeExcept [.y, .n, .z, .pc, .cycles] s t) ∧
    (∃ t, ends .txa 0x8A#8 t ∧ t.a = s.x ∧ NZ s.x t ∧ AgreeExcept [.a, .n, .z, .pc, .cycles] s t) ∧
    (∃ t, ends .tya 0x98#8 t ∧ t.a = s.y ∧ NZ s.y t ∧ AgreeExcept [.a, .n, .z, .pc, .cycles] s t) ∧
    (∃ t, ends .tsx 0xBA#8 t ∧ t.x = s.sp ∧ NZ s.sp t ∧ AgreeExcept [.x, .n, .z, .pc, .cycles] s t) ∧
    (∃ t, ends .txs 0x9A#8 t ∧ t.sp = s.x ∧ AgreeExcept [.sp, .pc, .cycles] s t)

/-- PHA and PHP: one byte written at `$0100 | S`, S one down modulo 256; PHP pushes the six flags with bits 5 and 4
set (40_load_store_transfer.md R133, R134). -/
def Obligations.PushRules : Prop :=
  ∀ s : State, Memory.wf s.ram = true →
    let pushes (i : Instr) (op v : Byte) : Prop :=
      encode i = [op] ∧ ∃ t, exec i s = .next t ∧ t.sp = s.sp - 1#8 ∧ t.ramByte (0x0100#16 ||| s.sp.setWidth 16) = v ∧
        SameRamBut [0x0100#16 ||| s.sp.setWidth 16] s t ∧ t.pc = s.pc + 1#16 ∧ t.cycles = s.cycles + 3 ∧
        AgreeExcept [.sp, .pc, .cycles, .ram, .busWrites] s t
    pushes .pha 0x48#8 s.a ∧
    pushes .php 0x08#8 (BitVec.ofNat 8 (s.flags.n.toNat * 128 + s.flags.v.toNat * 64 + 32 + 16 + s.flags.d.toNat * 8 +
      s.flags.i.toNat * 4 + s.flags.z.toNat * 2 + s.flags.c.toNat))

/-- PLA and PLP: S one up modulo 256, then the byte at `$0100 | S`; PLA sets N and Z, PLP takes the six flags and
discards bits 5 and 4 (40_load_store_transfer.md R135, R136). -/
def Obligations.PullRules : Prop :=
  ∀ s : State,
    let v := s.ramByte (0x0100#16 ||| (s.sp + 1#8).setWidth 16)
    let pulls (i : Instr) (op : Byte) (t : State) : Prop :=
      encode i = [op] ∧ exec i s = .next t ∧ t.sp = s.sp + 1#8 ∧ t.pc = s.pc + 1#16 ∧ t.cycles = s.cycles + 4
    (∃ t, pulls .pla 0x68#8 t ∧ t.a = v ∧ NZ v t ∧ AgreeExcept [.a, .sp, .n, .z, .pc, .cycles] s t) ∧
    (∃ t, pulls .plp 0x28#8 t ∧
      t.flags = ⟨v.getLsbD 7, v.getLsbD 6, v.getLsbD 3, v.getLsbD 2, v.getLsbD 1, v.getLsbD 0⟩ ∧
      AgreeExcept [.sp, .n, .v, .d, .i, .z, .c, .pc, .cycles] s t)

/-- The status byte on the stack: bit 5 is 1, bit 4 is the pushed B, unpacking gives the six flags back, and PHP then
PLP leaves flags and S as they were (10_state.md R31, R32, R36; 95_test_vectors.md T7). -/
def Obligations.StatusByteRoundTrip : Prop :=
  (∀ (f : Flags) (b : Bool) (v : Byte),
    unpackP (packP b f) = f ∧ (packP b f).getLsbD 5 = true ∧ (packP b f).getLsbD 4 = b ∧
    packP b (unpackP v) = (v &&& 0xCF#8) ||| 0x20#8 ||| (if b then 0x10#8 else 0x00#8)) ∧
  ∀ s t u : State, Memory.wf s.ram = true → exec .php s = .next t → exec .plp t = .next u →
    u.flags = s.flags ∧ u.sp = s.sp

/-! ### Arithmetic and logic -/

/-- ADC in every mode (41_arith_logic.md R150, R151): binary when D = 0; on BCD operands when D = 1 the decimal sum,
V drawn; otherwise A, C and V drawn; N and Z always from the final byte. The drawn values are free (log 7, 8). -/
def Obligations.AddWithCarryRule : Prop :=
  ∀ (b : Byte) (w : Word) (s : State), ∀ r ∈ adcRows b w, r.Encoded ∧
    let m := (operand r.src s).val
    let u := (operand r.src s).st
    let sum := s.a.toNat + m.toNat + s.flags.c.toNat
    let dec := bcdValue s.a + bcdValue m + s.flags.c.toNat
    ∃ t, exec r.instr s = .next t ∧ NZ t.a t ∧ r.Ends s t ∧
      AgreeExcept [.a, .n, .v, .z, .c, .pc, .cycles, .drawIndex] u t ∧
      t.drawIndex = u.drawIndex + s.flags.d.toNat ∧
      (s.flags.d = false → t.a.toNat = sum % 256 ∧ (t.flags.c = true ↔ 255 < sum) ∧
        t.flags.v = ((s.a ^^^ t.a) &&& (m ^^^ t.a)).getLsbD 7) ∧
      (s.flags.d = true → bcdValid s.a = true → bcdValid m = true →
        bcdValid t.a = true ∧ bcdValue t.a = dec % 100 ∧ (t.flags.c = true ↔ 100 ≤ dec) ∧
        t.flags.v = Config.decimalOverflow u.drawIndex) ∧
      (s.flags.d = true → (bcdValid s.a = false ∨ bcdValid m = false) →
        t.a = Config.decimalResult u.drawIndex ∧ t.flags.c = Config.decimalCarry u.drawIndex ∧
        t.flags.v = Config.decimalOverflow u.drawIndex)

/-- SBC in every mode (41_arith_logic.md R150, R152): binary when D = 0; on BCD operands when D = 1 the decimal
difference, V drawn; otherwise A, C and V drawn; N and Z always from the final byte. The drawn values are free
(log 7, 8). -/
def Obligations.SubtractWithBorrowRule : Prop :=
  ∀ (b : Byte) (w : Word) (s : State), ∀ r ∈ sbcRows b w, r.Encoded ∧
    let m := (operand r.src s).val
    let u := (operand r.src s).st
    let diff : Int := (s.a.toNat : Int) - m.toNat - (1 - s.flags.c.toNat)
    let dec : Int := (bcdValue s.a : Int) - bcdValue m - (1 - s.flags.c.toNat)
    ∃ t, exec r.instr s = .next t ∧ NZ t.a t ∧ r.Ends s t ∧
      AgreeExcept [.a, .n, .v, .z, .c, .pc, .cycles, .drawIndex] u t ∧
      t.drawIndex = u.drawIndex + s.flags.d.toNat ∧
      (s.flags.d = false → (t.a.toNat : Int) = diff % 256 ∧ (t.flags.c = true ↔ 0 ≤ diff) ∧
        t.flags.v = ((s.a ^^^ m) &&& (s.a ^^^ t.a)).getLsbD 7) ∧
      (s.flags.d = true → bcdValid s.a = true → bcdValid m = true →
        bcdValid t.a = true ∧ (bcdValue t.a : Int) = dec % 100 ∧ (t.flags.c = true ↔ 0 ≤ diff) ∧
        t.flags.v = Config.decimalOverflow u.drawIndex) ∧
      (s.flags.d = true → (bcdValid s.a = false ∨ bcdValid m = false) →
        t.a = Config.decimalResult u.drawIndex ∧ t.flags.c = Config.decimalCarry u.drawIndex ∧
        t.flags.v = Config.decimalOverflow u.drawIndex)

/-- In binary mode V is the two's-complement overflow: the exact signed sum or difference falls outside -128..127
(41_arith_logic.md R170). -/
def Obligations.OverflowIsSigned : Prop :=
  ∀ (b : Byte) (w : Word) (s : State), s.flags.d = false →
    (∀ r ∈ adcRows b w, ∃ t, exec r.instr s = .next t ∧
      let exact := s.a.toInt + (operand r.src s).val.toInt + s.flags.c.toNat
      (t.flags.v = true ↔ exact < -128 ∨ 127 < exact)) ∧
    (∀ r ∈ sbcRows b w, ∃ t, exec r.instr s = .next t ∧
      let exact := s.a.toInt - (operand r.src s).val.toInt - (1 - s.flags.c.toNat)
      (t.flags.v = true ↔ exact < -128 ∨ 127 < exact))

/-- AND, ORA, EOR in every mode (41_arith_logic.md R153, R154, R155), bit by bit. -/
def Obligations.LogicRules : Prop :=
  ∀ (b : Byte) (w : Word) (s : State),
    let bitwise (r : DataRow) (op : Bool → Bool → Bool) : Prop :=
      r.Encoded ∧ ∃ t, exec r.instr s = .next t ∧
        (∀ k, k < 8 → t.a.getLsbD k = op (s.a.getLsbD k) ((operand r.src s).val.getLsbD k)) ∧ NZ t.a t ∧ r.Ends s t ∧
        AgreeExcept [.a, .n, .z, .pc, .cycles] (operand r.src s).st t
    (∀ r ∈ andRows b w, bitwise r and) ∧ (∀ r ∈ oraRows b w, bitwise r or) ∧ (∀ r ∈ eorRows b w, bitwise r xor)

/-- BIT: Z from A and M, N and V from M's bits 7 and 6, A unchanged (41_arith_logic.md R156). -/
def Obligations.BitTestRule : Prop :=
  ∀ (b : Byte) (w : Word) (s : State), ∀ r ∈ bitRows b w, r.Encoded ∧ ∃ t, exec r.instr s = .next t ∧
    (t.flags.z = true ↔ ∀ k, k < 8 → ¬(s.a.getLsbD k = true ∧ (operand r.src s).val.getLsbD k = true)) ∧
    t.flags.n = (operand r.src s).val.getLsbD 7 ∧ t.flags.v = (operand r.src s).val.getLsbD 6 ∧ r.Ends s t ∧
    AgreeExcept [.n, .v, .z, .pc, .cycles] (operand r.src s).st t

/-- CMP, CPX, CPY in every mode: C is unsigned at-least, N and Z of the difference, always binary
(41_arith_logic.md R157, R158, R159). -/
def Obligations.CompareRules : Prop :=
  ∀ (b : Byte) (w : Word) (s : State),
    let compares (r : DataRow) (reg : Byte) : Prop :=
      r.Encoded ∧ ∃ t, exec r.instr s = .next t ∧
        (t.flags.c = true ↔ (operand r.src s).val.toNat ≤ reg.toNat) ∧
        (t.flags.z = true ↔ reg = (operand r.src s).val) ∧
        (t.flags.n = true ↔ 128 ≤ ((reg.toNat : Int) - (operand r.src s).val.toNat) % 256) ∧ r.Ends s t ∧
        AgreeExcept [.n, .z, .c, .pc, .cycles] (operand r.src s).st t
    (∀ r ∈ cmpRows b w, compares r s.a) ∧ (∀ r ∈ cpxRows b w, compares r s.x) ∧ (∀ r ∈ cpyRows b w, compares r s.y)

/-- INC and DEC in every mode: the byte at the effective address is read once and written once, one more or less
modulo 256, with N and Z from it; at a mapped ROM the flags are set and no byte changes
(41_arith_logic.md R160, R161). -/
def Obligations.MemoryStepRules : Prop :=
  ∀ (b : Byte) (w : Word) (s : State),
    let steps (r : MemRow) (delta : Nat) : Prop :=
      r.Encoded ∧
      let e := resolve r.mem s
      let v := BitVec.ofNat 8 ((s.peek e.addr).toNat + delta)
      ∃ t, exec r.instr s = .next t ∧ NZ v t ∧ r.Ends s t ∧
        AgreeExcept [.n, .z, .pc, .cycles] ((s.afterRead e.addr).busWrite e.addr v) t ∧ SameRamBut [e.addr] s t ∧
        AgreeExcept [.n, .z, .pc, .cycles, .ram, .timer0, .timer1, .video, .drawIndex, .busWrites] s t
    (∀ r ∈ incRows b w, steps r 1) ∧ (∀ r ∈ decRows b w, steps r 255)

/-- INX, INY, DEX, DEY: one more or less modulo 256, N and Z from it (41_arith_logic.md R162 to R165). -/
def Obligations.RegisterStepRules : Prop :=
  ∀ s : State,
    let ends (i : Instr) (op : Byte) (t : State) : Prop :=
      encode i = [op] ∧ exec i s = .next t ∧ t.pc = s.pc + 1#16 ∧ t.cycles = s.cycles + 2
    (∃ t, ends .inx 0xE8#8 t ∧ t.x.toNat = (s.x.toNat + 1) % 256 ∧ NZ t.x t ∧
      AgreeExcept [.x, .n, .z, .pc, .cycles] s t) ∧
    (∃ t, ends .iny 0xC8#8 t ∧ t.y.toNat = (s.y.toNat + 1) % 256 ∧ NZ t.y t ∧
      AgreeExcept [.y, .n, .z, .pc, .cycles] s t) ∧
    (∃ t, ends .dex 0xCA#8 t ∧ t.x.toNat = (s.x.toNat + 255) % 256 ∧ NZ t.x t ∧
      AgreeExcept [.x, .n, .z, .pc, .cycles] s t) ∧
    (∃ t, ends .dey 0x88#8 t ∧ t.y.toNat = (s.y.toNat + 255) % 256 ∧ NZ t.y t ∧
      AgreeExcept [.y, .n, .z, .pc, .cycles] s t)

/-- The shifts and rotates: on A, and on memory with one read and one write; C takes the bit shifted out, N and Z
follow the result, ROL and ROR shift the old C in (41_arith_logic.md R166 to R169). -/
def Obligations.ShiftRules : Prop :=
  ∀ (b : Byte) (w : Word) (s : State),
    let onA (i : Instr) (op : Byte) (f : Byte → Nat) (out : Nat) : Prop :=
      encode i = [op] ∧ ∃ t, exec i s = .next t ∧ t.a.toNat = f s.a ∧ t.flags.c = s.a.getLsbD out ∧ NZ t.a t ∧
        t.pc = s.pc + 1#16 ∧ t.cycles = s.cycles + 2 ∧ AgreeExcept [.a, .n, .z, .c, .pc, .cycles] s t
    let onMemory (r : MemRow) (f : Byte → Nat) (out : Nat) : Prop :=
      r.Encoded ∧
      let e := resolve r.mem s
      let v := BitVec.ofNat 8 (f (s.peek e.addr))
      ∃ t, exec r.instr s = .next t ∧ t.flags.c = (s.peek e.addr).getLsbD out ∧ NZ v t ∧ r.Ends s t ∧
        AgreeExcept [.n, .z, .c, .pc, .cycles] ((s.afterRead e.addr).busWrite e.addr v) t ∧ SameRamBut [e.addr] s t ∧
        AgreeExcept [.n, .z, .c, .pc, .cycles, .ram, .timer0, .timer1, .video, .drawIndex, .busWrites] s t
    let asl (v : Byte) : Nat := v.toNat * 2 % 256
    let lsr (v : Byte) : Nat := v.toNat / 2
    let rol (v : Byte) : Nat := (v.toNat * 2 + s.flags.c.toNat) % 256
    let ror (v : Byte) : Nat := v.toNat / 2 + 128 * s.flags.c.toNat
    (onA .aslAcc 0x0A#8 asl 7 ∧ ∀ r ∈ aslRows b w, onMemory r asl 7) ∧
    (onA .lsrAcc 0x4A#8 lsr 0 ∧ ∀ r ∈ lsrRows b w, onMemory r lsr 0) ∧
    (onA .rolAcc 0x2A#8 rol 7 ∧ ∀ r ∈ rolRows b w, onMemory r rol 7) ∧
    (onA .rorAcc 0x6A#8 ror 0 ∧ ∀ r ∈ rorRows b w, onMemory r ror 0)

/-! ### Control transfer and flags -/

/-- The eight branches: not taken, past the two bytes in 2 cycles; taken, to the signed offset from there in 3, or 4
across a page; nothing but PC and the cycles changes (42_control_system.md R190 to R198, 30_encoding.md R112). -/
def Obligations.BranchRules : Prop :=
  ∀ (b : Byte) (s : State),
    let next := (s.pc.toNat + 2) % 65536
    let target := (((s.pc.toNat : Int) + 2 + b.toInt) % 65536).toNat
    let branches (i : Instr) (op : Byte) (cond : Bool) : Prop :=
      encode i = [op, b] ∧ ∃ t, exec i s = .next t ∧ AgreeExcept [.pc, .cycles] s t ∧
        (cond = false → t.pc.toNat = next ∧ t.cycles = s.cycles + 2) ∧
        (cond = true → t.pc.toNat = target ∧
          t.cycles = s.cycles + 3 + (if target / 256 ≠ next / 256 then 1 else 0))
    branches (.bcc b) 0x90#8 (!s.flags.c) ∧ branches (.bcs b) 0xB0#8 s.flags.c ∧
    branches (.beq b) 0xF0#8 s.flags.z ∧ branches (.bmi b) 0x30#8 s.flags.n ∧
    branches (.bne b) 0xD0#8 (!s.flags.z) ∧ branches (.bpl b) 0x10#8 (!s.flags.n) ∧
    branches (.bvc b) 0x50#8 (!s.flags.v) ∧ branches (.bvs b) 0x70#8 s.flags.v

/-- JMP to an address, and through a pointer whose high byte comes from the pointer's own page, the low byte read
first (42_control_system.md R199, 30_encoding.md R101). -/
def Obligations.JumpRules : Prop :=
  ∀ (w : Word) (s : State),
    (encode (.jmpAbs w) = [0x4C#8, w.setWidth 8, (w >>> 8).setWidth 8] ∧
      ∃ t, exec (.jmpAbs w) s = .next t ∧ t.pc = w ∧ t.cycles = s.cycles + 3 ∧ AgreeExcept [.pc, .cycles] s t) ∧
    (encode (.jmpInd w) = [0x6C#8, w.setWidth 8, (w >>> 8).setWidth 8] ∧
      let hiAt := BitVec.ofNat 16 (w.toNat / 256 * 256 + (w.toNat % 256 + 1) % 256)
      let u := s.afterRead w
      ∃ t, exec (.jmpInd w) s = .next t ∧ t.pc = wordOf (u.peek hiAt) (s.peek w) ∧ t.cycles = s.cycles + 5 ∧
        AgreeExcept [.pc, .cycles] (u.afterRead hiAt) t)

/-- JSR pushes the address of its own last byte, high byte first, and goes to its operand; RTS pulls an address, low
byte first, and goes one past it (42_control_system.md R200, R201). -/
def Obligations.SubroutineRules : Prop :=
  ∀ (w : Word) (s : State),
    (Memory.wf s.ram = true → encode (.jsrAbs w) = [0x20#8, w.setWidth 8, (w >>> 8).setWidth 8] ∧
      ∃ t, exec (.jsrAbs w) s = .next t ∧ t.pc = w ∧ t.sp = s.sp - 2#8 ∧ t.cycles = s.cycles + 6 ∧
        t.ramByte (stackAddr s.sp) = hi8 (s.pc + 2#16) ∧ t.ramByte (stackAddr (s.sp - 1#8)) = lo8 (s.pc + 2#16) ∧
        SameRamBut [stackAddr s.sp, stackAddr (s.sp - 1#8)] s t ∧
        AgreeExcept [.sp, .pc, .cycles, .ram, .busWrites] s t) ∧
    (encode .rts = [0x60#8] ∧
      ∃ t, exec .rts s = .next t ∧ t.sp = s.sp + 2#8 ∧ t.cycles = s.cycles + 6 ∧
        t.pc = wordOf (s.ramByte (stackAddr (s.sp + 2#8))) (s.ramByte (stackAddr (s.sp + 1#8))) + 1#16 ∧
        AgreeExcept [.sp, .pc, .cycles] s t)

/-- A subroutine returns to the instruction after its JSR: if S and the stack are as JSR left them, RTS goes there
and restores S (42_control_system.md R200, R201, R212). -/
def Obligations.SubroutineReturnsAfterTheCall : Prop :=
  ∀ (w : Word) (s t h : State), Memory.wf s.ram = true → exec (.jsrAbs w) s = .next t → h.sp = t.sp →
    (∀ k ∈ [s.sp, s.sp - 1#8], h.ramByte (stackAddr k) = t.ramByte (stackAddr k)) →
    ∃ u, exec .rts h = .next u ∧ u.pc = s.pc + 3#16 ∧ u.sp = s.sp

/-- RTI pulls the status byte, then PC, and clears `nmi_in_service`; bits 5 and 4 are discarded
(42_control_system.md R202). -/
def Obligations.ReturnFromInterruptRule : Prop :=
  ∀ s : State, encode .rti = [0x40#8] ∧
    let p := s.ramByte (stackAddr (s.sp + 1#8))
    ∃ t, exec .rti s = .next t ∧ t.sp = s.sp + 3#8 ∧ t.cycles = s.cycles + 6 ∧ t.nmiInService = false ∧
      t.flags = ⟨p.getLsbD 7, p.getLsbD 6, p.getLsbD 3, p.getLsbD 2, p.getLsbD 1, p.getLsbD 0⟩ ∧
      t.pc = wordOf (s.ramByte (stackAddr (s.sp + 3#8))) (s.ramByte (stackAddr (s.sp + 2#8))) ∧
      AgreeExcept [.sp, .pc, .n, .v, .d, .i, .z, .c, .nmiInService, .cycles] s t

/-- BRK pushes PC + 2 and the status byte with B = 1, sets I, leaves D and `nmi_in_service`, and goes through the
IRQ vector, whatever I is (42_control_system.md R203). That it is encoded as its opcode byte alone, with the length 2
for the PC it pushes, is read from R203 and from 30_encoding.md R90 (log 14, DEDUCED). -/
def Obligations.BreakRule : Prop :=
  ∀ s : State, Memory.wf s.ram = true → encode .brk = [0x00#8] ∧ Instr.length .brk = 2 ∧
    ∃ t, exec .brk s = .next t ∧ Pushed3 s t (s.pc + 2#16) (packP true s.flags) ∧
      t.flags = { s.flags with i := true } ∧ t.pc = s.vectorAt 0xFFFE#16 ∧ t.cycles = s.cycles + 7 ∧
      AgreeExcept [.sp, .pc, .i, .cycles, .ram, .busWrites] s t

/-- NOP and the flag instructions: one byte, 2 cycles, each flag instruction writes its one flag and nothing else
(42_control_system.md R204 to R211). -/
def Obligations.FlagAndNopRules : Prop :=
  ∀ s : State,
    let ends (i : Instr) (op : Byte) (t : State) : Prop :=
      encode i = [op] ∧ exec i s = .next t ∧ t.pc = s.pc + 1#16 ∧ t.cycles = s.cycles + 2
    (∃ t, ends .nop 0xEA#8 t ∧ AgreeExcept [.pc, .cycles] s t) ∧
    (∃ t, ends .clc 0x18#8 t ∧ t.flags.c = false ∧ AgreeExcept [.c, .pc, .cycles] s t) ∧
    (∃ t, ends .sec 0x38#8 t ∧ t.flags.c = true ∧ AgreeExcept [.c, .pc, .cycles] s t) ∧
    (∃ t, ends .cli 0x58#8 t ∧ t.flags.i = false ∧ AgreeExcept [.i, .pc, .cycles] s t) ∧
    (∃ t, ends .sei 0x78#8 t ∧ t.flags.i = true ∧ AgreeExcept [.i, .pc, .cycles] s t) ∧
    (∃ t, ends .cld 0xD8#8 t ∧ t.flags.d = false ∧ AgreeExcept [.d, .pc, .cycles] s t) ∧
    (∃ t, ends .sed 0xF8#8 t ∧ t.flags.d = true ∧ AgreeExcept [.d, .pc, .cycles] s t) ∧
    (∃ t, ends .clv 0xB8#8 t ∧ t.flags.v = false ∧ AgreeExcept [.v, .pc, .cycles] s t)

/-! ### The host -/

/-- `run()` stops for the reason it gives and passes no reason by (60_exceptions.md R282, R283, R284). It ends after
some number of steps, each begun at a turn with no stop request; after each of them but the last the machine ran on,
had written to no watched address and stood at no breakpoint. Then: a request is the answer of the turn that stops, a
breakpoint is where PC is after at least one step, a watched address was written by the last step, a halt is what the
last step left; and a loop still going has had every turn it was given. A breakpoint where the run starts does not
stop it. The answers of `stop_requested` are an argument of the model's (log 16), and what a step wrote is read off
the model's own write list (log 9). -/
def Obligations.RunStopsForItsReason : Prop :=
  ∀ (g : Debugger) (stops : List Bool) (s t : State) (r : RunStatus), debugRun g stops s = (r, t) →
    let goesOn (u : State) : Prop := u.run = .running ∧ ∀ a ∈ g.watchpoints, a ∉ u.busWrites
    ∃ n, Host.Core.run core n s = .next t ∧
      (∀ k, k < n → stops[k]? = some false) ∧
      (∀ k u, 0 < k → k < n → Host.Core.run core k s = .next u → goesOn u ∧ u.pc ∉ g.breakpoints) ∧
      match r with
      | .request => stops[n]? = some true ∧ (0 < n → goesOn t)
      | .breakpoint => stops[n]? = some false ∧ 0 < n ∧ goesOn t ∧ t.pc ∈ g.breakpoints
      | .watchpoint => 0 < n ∧ t.run = .running ∧ ∃ a ∈ g.watchpoints, a ∈ t.busWrites
      | .halted op a => 0 < n ∧ t.run = .halted op a
      | .going => n = stops.length ∧ (0 < n → goesOn t)
      | .noStep => False

/-- Breakpoint and watchpoint sets only grow, inserting is idempotent (60_exceptions.md R282, R283), and a snapshot
shows each register, the flags one by one and as `PackP(0)` with B read as 0, both interrupt lines, the cycles and the
run state (R285, 10_state.md R31, R36). -/
def Obligations.DebuggerSetsAndSnapshot : Prop :=
  (∀ (g : Debugger) (a b : Word),
    setBreakpoint (setBreakpoint g a) a = setBreakpoint g a ∧ setWatchpoint (setWatchpoint g a) a = setWatchpoint g a ∧
    (b ∈ (setBreakpoint g a).breakpoints ↔ b = a ∨ b ∈ g.breakpoints) ∧
    (b ∈ (setWatchpoint g a).watchpoints ↔ b = a ∨ b ∈ g.watchpoints) ∧
    (setBreakpoint g a).watchpoints = g.watchpoints ∧ (setWatchpoint g a).breakpoints = g.breakpoints) ∧
  ∀ s : State, s.snapshot.a = s.a ∧ s.snapshot.x = s.x ∧ s.snapshot.y = s.y ∧ s.snapshot.sp = s.sp ∧
    s.snapshot.pc = s.pc ∧ s.snapshot.flags = s.flags ∧
    s.snapshot.p.getLsbD 4 = false ∧ s.snapshot.p.getLsbD 5 = true ∧ unpackP s.snapshot.p = s.flags ∧
    s.snapshot.irqLine = s.irqLine ∧ s.snapshot.nmiLine = s.nmiLine ∧ s.snapshot.cycles = s.cycles ∧
    s.snapshot.run = s.run
end

