-- ==== Sys2Proof/Laws/State.lean ====
section
/-! SUPPORT. What each register update of Machine/Ops.lean, Memory.lean and Chips.lean does to each field of a State,
one lemma per field per update, so that no later proof unfolds a record update. -/

namespace Sys2Proof.Machine

variable (s : State)

@[simp] theorem State.setA_a (v : Byte) : (s.setA v).a = v := rfl
@[simp] theorem State.setA_x (v : Byte) : (s.setA v).x = s.x := rfl
@[simp] theorem State.setA_y (v : Byte) : (s.setA v).y = s.y := rfl
@[simp] theorem State.setA_sp (v : Byte) : (s.setA v).sp = s.sp := rfl
@[simp] theorem State.setA_pc (v : Byte) : (s.setA v).pc = s.pc := rfl
@[simp] theorem State.setA_flags (v : Byte) : (s.setA v).flags = s.flags := rfl
@[simp] theorem State.setA_run (v : Byte) : (s.setA v).run = s.run := rfl
@[simp] theorem State.setA_nmiInService (v : Byte) : (s.setA v).nmiInService = s.nmiInService := rfl
@[simp] theorem State.setA_cycles (v : Byte) : (s.setA v).cycles = s.cycles := rfl
@[simp] theorem State.setA_ram (v : Byte) : (s.setA v).ram = s.ram := rfl
@[simp] theorem State.setA_rom (v : Byte) : (s.setA v).rom = s.rom := rfl
@[simp] theorem State.setA_timer0 (v : Byte) : (s.setA v).timer0 = s.timer0 := rfl
@[simp] theorem State.setA_timer1 (v : Byte) : (s.setA v).timer1 = s.timer1 := rfl
@[simp] theorem State.setA_video (v : Byte) : (s.setA v).video = s.video := rfl
@[simp] theorem State.setA_params (v : Byte) : (s.setA v).params = s.params := rfl
@[simp] theorem State.setA_drawIndex (v : Byte) : (s.setA v).drawIndex = s.drawIndex := rfl
@[simp] theorem State.setA_busWrites (v : Byte) : (s.setA v).busWrites = s.busWrites := rfl

@[simp] theorem State.setX_a (v : Byte) : (s.setX v).a = s.a := rfl
@[simp] theorem State.setX_x (v : Byte) : (s.setX v).x = v := rfl
@[simp] theorem State.setX_y (v : Byte) : (s.setX v).y = s.y := rfl
@[simp] theorem State.setX_sp (v : Byte) : (s.setX v).sp = s.sp := rfl
@[simp] theorem State.setX_pc (v : Byte) : (s.setX v).pc = s.pc := rfl
@[simp] theorem State.setX_flags (v : Byte) : (s.setX v).flags = s.flags := rfl
@[simp] theorem State.setX_run (v : Byte) : (s.setX v).run = s.run := rfl
@[simp] theorem State.setX_nmiInService (v : Byte) : (s.setX v).nmiInService = s.nmiInService := rfl
@[simp] theorem State.setX_cycles (v : Byte) : (s.setX v).cycles = s.cycles := rfl
@[simp] theorem State.setX_ram (v : Byte) : (s.setX v).ram = s.ram := rfl
@[simp] theorem State.setX_rom (v : Byte) : (s.setX v).rom = s.rom := rfl
@[simp] theorem State.setX_timer0 (v : Byte) : (s.setX v).timer0 = s.timer0 := rfl
@[simp] theorem State.setX_timer1 (v : Byte) : (s.setX v).timer1 = s.timer1 := rfl
@[simp] theorem State.setX_video (v : Byte) : (s.setX v).video = s.video := rfl
@[simp] theorem State.setX_params (v : Byte) : (s.setX v).params = s.params := rfl
@[simp] theorem State.setX_drawIndex (v : Byte) : (s.setX v).drawIndex = s.drawIndex := rfl
@[simp] theorem State.setX_busWrites (v : Byte) : (s.setX v).busWrites = s.busWrites := rfl

@[simp] theorem State.setY_a (v : Byte) : (s.setY v).a = s.a := rfl
@[simp] theorem State.setY_x (v : Byte) : (s.setY v).x = s.x := rfl
@[simp] theorem State.setY_y (v : Byte) : (s.setY v).y = v := rfl
@[simp] theorem State.setY_sp (v : Byte) : (s.setY v).sp = s.sp := rfl
@[simp] theorem State.setY_pc (v : Byte) : (s.setY v).pc = s.pc := rfl
@[simp] theorem State.setY_flags (v : Byte) : (s.setY v).flags = s.flags := rfl
@[simp] theorem State.setY_run (v : Byte) : (s.setY v).run = s.run := rfl
@[simp] theorem State.setY_nmiInService (v : Byte) : (s.setY v).nmiInService = s.nmiInService := rfl
@[simp] theorem State.setY_cycles (v : Byte) : (s.setY v).cycles = s.cycles := rfl
@[simp] theorem State.setY_ram (v : Byte) : (s.setY v).ram = s.ram := rfl
@[simp] theorem State.setY_rom (v : Byte) : (s.setY v).rom = s.rom := rfl
@[simp] theorem State.setY_timer0 (v : Byte) : (s.setY v).timer0 = s.timer0 := rfl
@[simp] theorem State.setY_timer1 (v : Byte) : (s.setY v).timer1 = s.timer1 := rfl
@[simp] theorem State.setY_video (v : Byte) : (s.setY v).video = s.video := rfl
@[simp] theorem State.setY_params (v : Byte) : (s.setY v).params = s.params := rfl
@[simp] theorem State.setY_drawIndex (v : Byte) : (s.setY v).drawIndex = s.drawIndex := rfl
@[simp] theorem State.setY_busWrites (v : Byte) : (s.setY v).busWrites = s.busWrites := rfl

@[simp] theorem State.setSp_a (v : Byte) : (s.setSp v).a = s.a := rfl
@[simp] theorem State.setSp_x (v : Byte) : (s.setSp v).x = s.x := rfl
@[simp] theorem State.setSp_y (v : Byte) : (s.setSp v).y = s.y := rfl
@[simp] theorem State.setSp_sp (v : Byte) : (s.setSp v).sp = v := rfl
@[simp] theorem State.setSp_pc (v : Byte) : (s.setSp v).pc = s.pc := rfl
@[simp] theorem State.setSp_flags (v : Byte) : (s.setSp v).flags = s.flags := rfl
@[simp] theorem State.setSp_run (v : Byte) : (s.setSp v).run = s.run := rfl
@[simp] theorem State.setSp_nmiInService (v : Byte) : (s.setSp v).nmiInService = s.nmiInService := rfl
@[simp] theorem State.setSp_cycles (v : Byte) : (s.setSp v).cycles = s.cycles := rfl
@[simp] theorem State.setSp_ram (v : Byte) : (s.setSp v).ram = s.ram := rfl
@[simp] theorem State.setSp_rom (v : Byte) : (s.setSp v).rom = s.rom := rfl
@[simp] theorem State.setSp_timer0 (v : Byte) : (s.setSp v).timer0 = s.timer0 := rfl
@[simp] theorem State.setSp_timer1 (v : Byte) : (s.setSp v).timer1 = s.timer1 := rfl
@[simp] theorem State.setSp_video (v : Byte) : (s.setSp v).video = s.video := rfl
@[simp] theorem State.setSp_params (v : Byte) : (s.setSp v).params = s.params := rfl
@[simp] theorem State.setSp_drawIndex (v : Byte) : (s.setSp v).drawIndex = s.drawIndex := rfl
@[simp] theorem State.setSp_busWrites (v : Byte) : (s.setSp v).busWrites = s.busWrites := rfl

@[simp] theorem State.setPc_a (v : Word) : (s.setPc v).a = s.a := rfl
@[simp] theorem State.setPc_x (v : Word) : (s.setPc v).x = s.x := rfl
@[simp] theorem State.setPc_y (v : Word) : (s.setPc v).y = s.y := rfl
@[simp] theorem State.setPc_sp (v : Word) : (s.setPc v).sp = s.sp := rfl
@[simp] theorem State.setPc_pc (v : Word) : (s.setPc v).pc = v := rfl
@[simp] theorem State.setPc_flags (v : Word) : (s.setPc v).flags = s.flags := rfl
@[simp] theorem State.setPc_run (v : Word) : (s.setPc v).run = s.run := rfl
@[simp] theorem State.setPc_nmiInService (v : Word) : (s.setPc v).nmiInService = s.nmiInService := rfl
@[simp] theorem State.setPc_cycles (v : Word) : (s.setPc v).cycles = s.cycles := rfl
@[simp] theorem State.setPc_ram (v : Word) : (s.setPc v).ram = s.ram := rfl
@[simp] theorem State.setPc_rom (v : Word) : (s.setPc v).rom = s.rom := rfl
@[simp] theorem State.setPc_timer0 (v : Word) : (s.setPc v).timer0 = s.timer0 := rfl
@[simp] theorem State.setPc_timer1 (v : Word) : (s.setPc v).timer1 = s.timer1 := rfl
@[simp] theorem State.setPc_video (v : Word) : (s.setPc v).video = s.video := rfl
@[simp] theorem State.setPc_params (v : Word) : (s.setPc v).params = s.params := rfl
@[simp] theorem State.setPc_drawIndex (v : Word) : (s.setPc v).drawIndex = s.drawIndex := rfl
@[simp] theorem State.setPc_busWrites (v : Word) : (s.setPc v).busWrites = s.busWrites := rfl

@[simp] theorem State.setFlags_a (v : Flags) : (s.setFlags v).a = s.a := rfl
@[simp] theorem State.setFlags_x (v : Flags) : (s.setFlags v).x = s.x := rfl
@[simp] theorem State.setFlags_y (v : Flags) : (s.setFlags v).y = s.y := rfl
@[simp] theorem State.setFlags_sp (v : Flags) : (s.setFlags v).sp = s.sp := rfl
@[simp] theorem State.setFlags_pc (v : Flags) : (s.setFlags v).pc = s.pc := rfl
@[simp] theorem State.setFlags_flags (v : Flags) : (s.setFlags v).flags = v := rfl
@[simp] theorem State.setFlags_run (v : Flags) : (s.setFlags v).run = s.run := rfl
@[simp] theorem State.setFlags_nmiInService (v : Flags) : (s.setFlags v).nmiInService = s.nmiInService := rfl
@[simp] theorem State.setFlags_cycles (v : Flags) : (s.setFlags v).cycles = s.cycles := rfl
@[simp] theorem State.setFlags_ram (v : Flags) : (s.setFlags v).ram = s.ram := rfl
@[simp] theorem State.setFlags_rom (v : Flags) : (s.setFlags v).rom = s.rom := rfl
@[simp] theorem State.setFlags_timer0 (v : Flags) : (s.setFlags v).timer0 = s.timer0 := rfl
@[simp] theorem State.setFlags_timer1 (v : Flags) : (s.setFlags v).timer1 = s.timer1 := rfl
@[simp] theorem State.setFlags_video (v : Flags) : (s.setFlags v).video = s.video := rfl
@[simp] theorem State.setFlags_params (v : Flags) : (s.setFlags v).params = s.params := rfl
@[simp] theorem State.setFlags_drawIndex (v : Flags) : (s.setFlags v).drawIndex = s.drawIndex := rfl
@[simp] theorem State.setFlags_busWrites (v : Flags) : (s.setFlags v).busWrites = s.busWrites := rfl

@[simp] theorem State.setNmiInService_a (v : Bool) : (s.setNmiInService v).a = s.a := rfl
@[simp] theorem State.setNmiInService_x (v : Bool) : (s.setNmiInService v).x = s.x := rfl
@[simp] theorem State.setNmiInService_y (v : Bool) : (s.setNmiInService v).y = s.y := rfl
@[simp] theorem State.setNmiInService_sp (v : Bool) : (s.setNmiInService v).sp = s.sp := rfl
@[simp] theorem State.setNmiInService_pc (v : Bool) : (s.setNmiInService v).pc = s.pc := rfl
@[simp] theorem State.setNmiInService_flags (v : Bool) : (s.setNmiInService v).flags = s.flags := rfl
@[simp] theorem State.setNmiInService_run (v : Bool) : (s.setNmiInService v).run = s.run := rfl
@[simp] theorem State.setNmiInService_nmiInService (v : Bool) : (s.setNmiInService v).nmiInService = v := rfl
@[simp] theorem State.setNmiInService_cycles (v : Bool) : (s.setNmiInService v).cycles = s.cycles := rfl
@[simp] theorem State.setNmiInService_ram (v : Bool) : (s.setNmiInService v).ram = s.ram := rfl
@[simp] theorem State.setNmiInService_rom (v : Bool) : (s.setNmiInService v).rom = s.rom := rfl
@[simp] theorem State.setNmiInService_timer0 (v : Bool) : (s.setNmiInService v).timer0 = s.timer0 := rfl
@[simp] theorem State.setNmiInService_timer1 (v : Bool) : (s.setNmiInService v).timer1 = s.timer1 := rfl
@[simp] theorem State.setNmiInService_video (v : Bool) : (s.setNmiInService v).video = s.video := rfl
@[simp] theorem State.setNmiInService_params (v : Bool) : (s.setNmiInService v).params = s.params := rfl
@[simp] theorem State.setNmiInService_drawIndex (v : Bool) : (s.setNmiInService v).drawIndex = s.drawIndex := rfl
@[simp] theorem State.setNmiInService_busWrites (v : Bool) : (s.setNmiInService v).busWrites = s.busWrites := rfl

@[simp] theorem State.addCycles_a (v : Nat) : (s.addCycles v).a = s.a := rfl
@[simp] theorem State.addCycles_x (v : Nat) : (s.addCycles v).x = s.x := rfl
@[simp] theorem State.addCycles_y (v : Nat) : (s.addCycles v).y = s.y := rfl
@[simp] theorem State.addCycles_sp (v : Nat) : (s.addCycles v).sp = s.sp := rfl
@[simp] theorem State.addCycles_pc (v : Nat) : (s.addCycles v).pc = s.pc := rfl
@[simp] theorem State.addCycles_flags (v : Nat) : (s.addCycles v).flags = s.flags := rfl
@[simp] theorem State.addCycles_run (v : Nat) : (s.addCycles v).run = s.run := rfl
@[simp] theorem State.addCycles_nmiInService (v : Nat) : (s.addCycles v).nmiInService = s.nmiInService := rfl
@[simp] theorem State.addCycles_cycles (v : Nat) : (s.addCycles v).cycles = s.cycles + v := rfl
@[simp] theorem State.addCycles_ram (v : Nat) : (s.addCycles v).ram = s.ram := rfl
@[simp] theorem State.addCycles_rom (v : Nat) : (s.addCycles v).rom = s.rom := rfl
@[simp] theorem State.addCycles_timer0 (v : Nat) : (s.addCycles v).timer0 = s.timer0 := rfl
@[simp] theorem State.addCycles_timer1 (v : Nat) : (s.addCycles v).timer1 = s.timer1 := rfl
@[simp] theorem State.addCycles_video (v : Nat) : (s.addCycles v).video = s.video := rfl
@[simp] theorem State.addCycles_params (v : Nat) : (s.addCycles v).params = s.params := rfl
@[simp] theorem State.addCycles_drawIndex (v : Nat) : (s.addCycles v).drawIndex = s.drawIndex := rfl
@[simp] theorem State.addCycles_busWrites (v : Nat) : (s.addCycles v).busWrites = s.busWrites := rfl

@[simp] theorem State.nextDraw_a : (s.nextDraw).a = s.a := rfl
@[simp] theorem State.nextDraw_x : (s.nextDraw).x = s.x := rfl
@[simp] theorem State.nextDraw_y : (s.nextDraw).y = s.y := rfl
@[simp] theorem State.nextDraw_sp : (s.nextDraw).sp = s.sp := rfl
@[simp] theorem State.nextDraw_pc : (s.nextDraw).pc = s.pc := rfl
@[simp] theorem State.nextDraw_flags : (s.nextDraw).flags = s.flags := rfl
@[simp] theorem State.nextDraw_run : (s.nextDraw).run = s.run := rfl
@[simp] theorem State.nextDraw_nmiInService : (s.nextDraw).nmiInService = s.nmiInService := rfl
@[simp] theorem State.nextDraw_cycles : (s.nextDraw).cycles = s.cycles := rfl
@[simp] theorem State.nextDraw_ram : (s.nextDraw).ram = s.ram := rfl
@[simp] theorem State.nextDraw_rom : (s.nextDraw).rom = s.rom := rfl
@[simp] theorem State.nextDraw_timer0 : (s.nextDraw).timer0 = s.timer0 := rfl
@[simp] theorem State.nextDraw_timer1 : (s.nextDraw).timer1 = s.timer1 := rfl
@[simp] theorem State.nextDraw_video : (s.nextDraw).video = s.video := rfl
@[simp] theorem State.nextDraw_params : (s.nextDraw).params = s.params := rfl
@[simp] theorem State.nextDraw_drawIndex : (s.nextDraw).drawIndex = s.drawIndex + 1 := rfl
@[simp] theorem State.nextDraw_busWrites : (s.nextDraw).busWrites = s.busWrites := rfl

@[simp] theorem State.finish_a (n c : Nat) : (s.finish n c).a = s.a := rfl
@[simp] theorem State.finish_x (n c : Nat) : (s.finish n c).x = s.x := rfl
@[simp] theorem State.finish_y (n c : Nat) : (s.finish n c).y = s.y := rfl
@[simp] theorem State.finish_sp (n c : Nat) : (s.finish n c).sp = s.sp := rfl
@[simp] theorem State.finish_pc (n c : Nat) : (s.finish n c).pc = s.pc + BitVec.ofNat 16 n := rfl
@[simp] theorem State.finish_flags (n c : Nat) : (s.finish n c).flags = s.flags := rfl
@[simp] theorem State.finish_run (n c : Nat) : (s.finish n c).run = s.run := rfl
@[simp] theorem State.finish_nmiInService (n c : Nat) : (s.finish n c).nmiInService = s.nmiInService := rfl
@[simp] theorem State.finish_cycles (n c : Nat) : (s.finish n c).cycles = s.cycles + c := rfl
@[simp] theorem State.finish_ram (n c : Nat) : (s.finish n c).ram = s.ram := rfl
@[simp] theorem State.finish_rom (n c : Nat) : (s.finish n c).rom = s.rom := rfl
@[simp] theorem State.finish_timer0 (n c : Nat) : (s.finish n c).timer0 = s.timer0 := rfl
@[simp] theorem State.finish_timer1 (n c : Nat) : (s.finish n c).timer1 = s.timer1 := rfl
@[simp] theorem State.finish_video (n c : Nat) : (s.finish n c).video = s.video := rfl
@[simp] theorem State.finish_params (n c : Nat) : (s.finish n c).params = s.params := rfl
@[simp] theorem State.finish_drawIndex (n c : Nat) : (s.finish n c).drawIndex = s.drawIndex := rfl
@[simp] theorem State.finish_busWrites (n c : Nat) : (s.finish n c).busWrites = s.busWrites := rfl

@[simp] theorem State.jump_a (w : Word) (c : Nat) : (s.jump w c).a = s.a := rfl
@[simp] theorem State.jump_x (w : Word) (c : Nat) : (s.jump w c).x = s.x := rfl
@[simp] theorem State.jump_y (w : Word) (c : Nat) : (s.jump w c).y = s.y := rfl
@[simp] theorem State.jump_sp (w : Word) (c : Nat) : (s.jump w c).sp = s.sp := rfl
@[simp] theorem State.jump_pc (w : Word) (c : Nat) : (s.jump w c).pc = w := rfl
@[simp] theorem State.jump_flags (w : Word) (c : Nat) : (s.jump w c).flags = s.flags := rfl
@[simp] theorem State.jump_run (w : Word) (c : Nat) : (s.jump w c).run = s.run := rfl
@[simp] theorem State.jump_nmiInService (w : Word) (c : Nat) : (s.jump w c).nmiInService = s.nmiInService := rfl
@[simp] theorem State.jump_cycles (w : Word) (c : Nat) : (s.jump w c).cycles = s.cycles + c := rfl
@[simp] theorem State.jump_ram (w : Word) (c : Nat) : (s.jump w c).ram = s.ram := rfl
@[simp] theorem State.jump_rom (w : Word) (c : Nat) : (s.jump w c).rom = s.rom := rfl
@[simp] theorem State.jump_timer0 (w : Word) (c : Nat) : (s.jump w c).timer0 = s.timer0 := rfl
@[simp] theorem State.jump_timer1 (w : Word) (c : Nat) : (s.jump w c).timer1 = s.timer1 := rfl
@[simp] theorem State.jump_video (w : Word) (c : Nat) : (s.jump w c).video = s.video := rfl
@[simp] theorem State.jump_params (w : Word) (c : Nat) : (s.jump w c).params = s.params := rfl
@[simp] theorem State.jump_drawIndex (w : Word) (c : Nat) : (s.jump w c).drawIndex = s.drawIndex := rfl
@[simp] theorem State.jump_busWrites (w : Word) (c : Nat) : (s.jump w c).busWrites = s.busWrites := rfl

@[simp] theorem State.setRamByte_a (w : Word) (v : Byte) : (s.setRamByte w v).a = s.a := rfl
@[simp] theorem State.setRamByte_x (w : Word) (v : Byte) : (s.setRamByte w v).x = s.x := rfl
@[simp] theorem State.setRamByte_y (w : Word) (v : Byte) : (s.setRamByte w v).y = s.y := rfl
@[simp] theorem State.setRamByte_sp (w : Word) (v : Byte) : (s.setRamByte w v).sp = s.sp := rfl
@[simp] theorem State.setRamByte_pc (w : Word) (v : Byte) : (s.setRamByte w v).pc = s.pc := rfl
@[simp] theorem State.setRamByte_flags (w : Word) (v : Byte) : (s.setRamByte w v).flags = s.flags := rfl
@[simp] theorem State.setRamByte_run (w : Word) (v : Byte) : (s.setRamByte w v).run = s.run := rfl
@[simp] theorem State.setRamByte_nmiInService (w : Word) (v : Byte) : (s.setRamByte w v).nmiInService = s.nmiInService := rfl
@[simp] theorem State.setRamByte_cycles (w : Word) (v : Byte) : (s.setRamByte w v).cycles = s.cycles := rfl
@[simp] theorem State.setRamByte_ram (w : Word) (v : Byte) : (s.setRamByte w v).ram = Cells.write ramUnlisted s.ram w.toNat v := rfl
@[simp] theorem State.setRamByte_rom (w : Word) (v : Byte) : (s.setRamByte w v).rom = s.rom := rfl
@[simp] theorem State.setRamByte_timer0 (w : Word) (v : Byte) : (s.setRamByte w v).timer0 = s.timer0 := rfl
@[simp] theorem State.setRamByte_timer1 (w : Word) (v : Byte) : (s.setRamByte w v).timer1 = s.timer1 := rfl
@[simp] theorem State.setRamByte_video (w : Word) (v : Byte) : (s.setRamByte w v).video = s.video := rfl
@[simp] theorem State.setRamByte_params (w : Word) (v : Byte) : (s.setRamByte w v).params = s.params := rfl
@[simp] theorem State.setRamByte_drawIndex (w : Word) (v : Byte) : (s.setRamByte w v).drawIndex = s.drawIndex := rfl
@[simp] theorem State.setRamByte_busWrites (w : Word) (v : Byte) : (s.setRamByte w v).busWrites = s.busWrites := rfl

@[simp] theorem State.beginStep_a : (s.beginStep).a = s.a := rfl
@[simp] theorem State.beginStep_x : (s.beginStep).x = s.x := rfl
@[simp] theorem State.beginStep_y : (s.beginStep).y = s.y := rfl
@[simp] theorem State.beginStep_sp : (s.beginStep).sp = s.sp := rfl
@[simp] theorem State.beginStep_pc : (s.beginStep).pc = s.pc := rfl
@[simp] theorem State.beginStep_flags : (s.beginStep).flags = s.flags := rfl
@[simp] theorem State.beginStep_run : (s.beginStep).run = s.run := rfl
@[simp] theorem State.beginStep_nmiInService : (s.beginStep).nmiInService = s.nmiInService := rfl
@[simp] theorem State.beginStep_cycles : (s.beginStep).cycles = s.cycles := rfl
@[simp] theorem State.beginStep_ram : (s.beginStep).ram = s.ram := rfl
@[simp] theorem State.beginStep_rom : (s.beginStep).rom = s.rom := rfl
@[simp] theorem State.beginStep_timer0 : (s.beginStep).timer0 = s.timer0 := rfl
@[simp] theorem State.beginStep_timer1 : (s.beginStep).timer1 = s.timer1 := rfl
@[simp] theorem State.beginStep_video : (s.beginStep).video = s.video := rfl
@[simp] theorem State.beginStep_params : (s.beginStep).params = s.params := rfl
@[simp] theorem State.beginStep_drawIndex : (s.beginStep).drawIndex = s.drawIndex := rfl
@[simp] theorem State.beginStep_busWrites : (s.beginStep).busWrites = [] := rfl

@[simp] theorem State.halt_a (v : Byte) : (s.halt v).a = s.a := rfl
@[simp] theorem State.halt_x (v : Byte) : (s.halt v).x = s.x := rfl
@[simp] theorem State.halt_y (v : Byte) : (s.halt v).y = s.y := rfl
@[simp] theorem State.halt_sp (v : Byte) : (s.halt v).sp = s.sp := rfl
@[simp] theorem State.halt_pc (v : Byte) : (s.halt v).pc = s.pc := rfl
@[simp] theorem State.halt_flags (v : Byte) : (s.halt v).flags = s.flags := rfl
@[simp] theorem State.halt_run (v : Byte) : (s.halt v).run = .halted v s.pc := rfl
@[simp] theorem State.halt_nmiInService (v : Byte) : (s.halt v).nmiInService = s.nmiInService := rfl
@[simp] theorem State.halt_cycles (v : Byte) : (s.halt v).cycles = s.cycles := rfl
@[simp] theorem State.halt_ram (v : Byte) : (s.halt v).ram = s.ram := rfl
@[simp] theorem State.halt_rom (v : Byte) : (s.halt v).rom = s.rom := rfl
@[simp] theorem State.halt_timer0 (v : Byte) : (s.halt v).timer0 = s.timer0 := rfl
@[simp] theorem State.halt_timer1 (v : Byte) : (s.halt v).timer1 = s.timer1 := rfl
@[simp] theorem State.halt_video (v : Byte) : (s.halt v).video = s.video := rfl
@[simp] theorem State.halt_params (v : Byte) : (s.halt v).params = s.params := rfl
@[simp] theorem State.halt_drawIndex (v : Byte) : (s.halt v).drawIndex = s.drawIndex := rfl
@[simp] theorem State.halt_busWrites (v : Byte) : (s.halt v).busWrites = s.busWrites := rfl

@[simp] theorem State.tick_a : (s.tick).a = s.a := rfl
@[simp] theorem State.tick_x : (s.tick).x = s.x := rfl
@[simp] theorem State.tick_y : (s.tick).y = s.y := rfl
@[simp] theorem State.tick_sp : (s.tick).sp = s.sp := rfl
@[simp] theorem State.tick_pc : (s.tick).pc = s.pc := rfl
@[simp] theorem State.tick_flags : (s.tick).flags = s.flags := rfl
@[simp] theorem State.tick_run : (s.tick).run = s.run := rfl
@[simp] theorem State.tick_nmiInService : (s.tick).nmiInService = s.nmiInService := rfl
@[simp] theorem State.tick_cycles : (s.tick).cycles = s.cycles := rfl
@[simp] theorem State.tick_ram : (s.tick).ram = s.ram := rfl
@[simp] theorem State.tick_rom : (s.tick).rom = s.rom := rfl
@[simp] theorem State.tick_timer0 : (s.tick).timer0 = s.timer0.tick := rfl
@[simp] theorem State.tick_timer1 : (s.tick).timer1 = s.timer1.tick := rfl
@[simp] theorem State.tick_video : (s.tick).video = s.video.tick s.params := rfl
@[simp] theorem State.tick_params : (s.tick).params = s.params := rfl
@[simp] theorem State.tick_drawIndex : (s.tick).drawIndex = s.drawIndex := rfl
@[simp] theorem State.tick_busWrites : (s.tick).busWrites = s.busWrites := rfl

end Sys2Proof.Machine
end

