-- ==== Sys2Proof/Laws/Memory.lean ====
section
/-! SUPPORT. The laws of memory (Machine/Memory.lean): a read after a write, the canonical form, and that the form is
canonical. -/

namespace Sys2Proof.Machine

variable {u : Nat → Byte} {size lo a b : Nat} {v : Byte} {m m' : Cells}

/-- A write leaves every other address as it was. -/
theorem Cells.read_write_ne (h : b ≠ a) : Cells.read u (Cells.write u m a v) b = Cells.read u m b := by
  induction m with
  | nil => by_cases hv : v = u a <;> simp [Cells.write, Cells.read, hv, h]
  | cons c rest ih =>
    obtain ⟨k, w⟩ := c
    simp only [Cells.write]
    split_ifs <;> simp_all [Cells.read]

/-- Below the first cell of a canonical memory nothing is listed. -/
theorem Cells.read_of_wfFrom_lt (hm : Cells.wfFrom u size lo m = true) (h : a < lo) : Cells.read u m a = u a := by
  induction m generalizing lo with
  | nil => rfl
  | cons c rest ih =>
    obtain ⟨k, w⟩ := c
    simp only [Cells.wfFrom, Bool.and_eq_true, decide_eq_true_eq] at hm
    have hk : a ≠ k := by omega
    simpa [Cells.read, hk] using ih hm.2 (by omega)

/-- A write is read back. -/
theorem Cells.read_write_eq (hm : Cells.wfFrom u size lo m = true) : Cells.read u (Cells.write u m a v) a = v := by
  induction m generalizing lo with
  | nil => by_cases hv : v = u a <;> simp [Cells.write, Cells.read, hv]
  | cons c rest ih =>
    obtain ⟨k, w⟩ := c
    simp only [Cells.wfFrom, Bool.and_eq_true, decide_eq_true_eq] at hm
    simp only [Cells.write]
    split_ifs with h1 h2 h3 h4
    · have hk : a ≠ k := by omega
      simp [Cells.read, hk, h2, Cells.read_of_wfFrom_lt hm.2 (show a < k + 1 by omega)]
    · simp [Cells.read]
    · simp [h4, Cells.read_of_wfFrom_lt hm.2 (show a < k + 1 by omega)]
    · simp [Cells.read]
    · simpa [Cells.read, h3] using ih hm.2

/-- The canonical form from an address on is one from any address below it. -/
theorem Cells.wfFrom_mono (hm : Cells.wfFrom u size lo m = true) (h : a ≤ lo) : Cells.wfFrom u size a m = true := by
  cases m with
  | nil => rfl
  | cons c rest =>
    obtain ⟨k, w⟩ := c
    simp only [Cells.wfFrom, Bool.and_eq_true, decide_eq_true_eq] at hm ⊢
    exact ⟨⟨⟨by omega, hm.1.1.2⟩, hm.1.2⟩, hm.2⟩

/-- A write inside the memory keeps the canonical form. -/
theorem Cells.write_wfFrom (hm : Cells.wfFrom u size lo m = true) (ha : a < size) (hl : lo ≤ a) :
    Cells.wfFrom u size lo (Cells.write u m a v) = true := by
  induction m generalizing lo with
  | nil => by_cases hv : v = u a <;> simp [Cells.write, Cells.wfFrom, hv, hl, ha]
  | cons c rest ih =>
    obtain ⟨k, w⟩ := c
    have hm' := hm
    simp only [Cells.wfFrom, Bool.and_eq_true, decide_eq_true_eq] at hm
    obtain ⟨⟨⟨h1, h2⟩, h3⟩, h4⟩ := hm
    simp only [Cells.write]
    split_ifs with hlt hv heq hv
    · exact hm'
    · simp only [Cells.wfFrom, Bool.and_eq_true, decide_eq_true_eq]
      exact ⟨⟨⟨hl, ha⟩, hv⟩, ⟨⟨by omega, h2⟩, h3⟩, h4⟩
    · exact Cells.wfFrom_mono h4 (by omega)
    · subst heq
      simp only [Cells.wfFrom, Bool.and_eq_true, decide_eq_true_eq]
      exact ⟨⟨⟨hl, ha⟩, hv⟩, h4⟩
    · simp only [Cells.wfFrom, Bool.and_eq_true, decide_eq_true_eq]
      exact ⟨⟨⟨h1, h2⟩, h3⟩, ih h4 (by omega)⟩

/-- The form is canonical: memories that read alike everywhere are the same list. -/
theorem Cells.ext_of_wfFrom (hm : Cells.wfFrom u size lo m = true) (hm' : Cells.wfFrom u size lo m' = true)
    (h : ∀ a, Cells.read u m a = Cells.read u m' a) : m = m' := by
  induction m generalizing lo m' with
  | nil =>
    cases m' with
    | nil => rfl
    | cons c rest =>
      obtain ⟨k, w⟩ := c
      simp only [Cells.wfFrom, Bool.and_eq_true, decide_eq_true_eq] at hm'
      exact absurd (h k).symm (by simpa [Cells.read] using hm'.1.2)
  | cons c rest ih =>
    obtain ⟨k, w⟩ := c
    have hm0 := hm
    simp only [Cells.wfFrom, Bool.and_eq_true, decide_eq_true_eq] at hm
    cases m' with
    | nil => exact absurd (h k) (by simpa [Cells.read] using hm.1.2)
    | cons c' rest' =>
      obtain ⟨k', w'⟩ := c'
      have hm0' := hm'
      simp only [Cells.wfFrom, Bool.and_eq_true, decide_eq_true_eq] at hm'
      have hkk : k = k' := by
        by_contra hne
        rcases Nat.lt_or_gt_of_ne hne with hlt | hgt
        · have hk := h k
          simp only [Cells.read, if_neg (Nat.ne_of_lt hlt), if_true] at hk
          rw [Cells.read_of_wfFrom_lt hm'.2 (by omega)] at hk
          exact hm.1.2 hk
        · have hk := h k'
          simp only [Cells.read, if_neg (Nat.ne_of_lt hgt), if_true] at hk
          rw [Cells.read_of_wfFrom_lt hm.2 (by omega)] at hk
          exact hm'.1.2 hk.symm
      subst hkk
      have hw : w = w' := by simpa [Cells.read] using h k
      subst hw
      congr 1
      refine ih hm.2 hm'.2 fun a => ?_
      by_cases ha : a = k
      · subst ha
        rw [Cells.read_of_wfFrom_lt hm.2 (by omega), Cells.read_of_wfFrom_lt hm'.2 (by omega)]
      · simpa [Cells.read, ha] using h a

/-- Bytes laid out from an address on are in canonical form. -/
theorem Cells.ofBytes_wfFrom (bs : List Byte) (h : a + bs.length ≤ size) (hl : lo ≤ a) :
    Cells.wfFrom u size lo (Cells.ofBytes u a bs) = true := by
  induction bs generalizing a lo with
  | nil => rfl
  | cons v rest ih =>
    simp only [List.length_cons] at h
    simp only [Cells.ofBytes]
    split_ifs with hv
    · exact ih (by omega) (by omega)
    · simp only [Cells.wfFrom, Bool.and_eq_true, decide_eq_true_eq]
      exact ⟨⟨⟨hl, by omega⟩, hv⟩, ih (by omega) (by omega)⟩

variable {s : State} {w w' : Word}

/-- A RAM write leaves every other byte of RAM as it was. -/
theorem State.ramByte_setRamByte_ne (h : w' ≠ w) : (s.setRamByte w v).ramByte w' = s.ramByte w' :=
  Cells.read_write_ne fun hn => h (BitVec.eq_of_toNat_eq hn)

/-- A RAM write is read back. -/
theorem State.ramByte_setRamByte_eq (hs : Memory.wf s.ram = true) : (s.setRamByte w v).ramByte w = v :=
  Cells.read_write_eq hs

/-- A RAM write keeps RAM canonical. -/
theorem State.setRamByte_wf (hs : Memory.wf s.ram = true) : Memory.wf (s.setRamByte w v).ram = true :=
  Cells.write_wfFrom hs w.isLt (Nat.zero_le _)

/-- RAM is all that a RAM byte depends on. -/
theorem State.ramByte_congr {t : State} (h : t.ram = s.ram) : t.ramByte w = s.ramByte w := by
  simp [State.ramByte, h]

/-- The memory of the reset state is canonical. -/
theorem State.reset_ram_wf : Memory.wf State.reset.ram = true := rfl

end Sys2Proof.Machine
end

