-- ==== Sys2Proof/Laws/Bus.lean ====
section
/-! SUPPORT. What the bus and stack operations of Machine/Ops.lean can do, said once: which fields a read, a write, a
push, a pull and a vector fetch leave alone, and what a write does to RAM. -/

namespace Sys2Proof.Machine

variable (s : State) (a w : Word) (v : Byte) (b : Bool)

@[simp] theorem State.drawIf_a : (s.drawIf b).a = s.a := by unfold State.drawIf; split <;> rfl
@[simp] theorem State.drawIf_x : (s.drawIf b).x = s.x := by unfold State.drawIf; split <;> rfl
@[simp] theorem State.drawIf_y : (s.drawIf b).y = s.y := by unfold State.drawIf; split <;> rfl
@[simp] theorem State.drawIf_sp : (s.drawIf b).sp = s.sp := by unfold State.drawIf; split <;> rfl
@[simp] theorem State.drawIf_pc : (s.drawIf b).pc = s.pc := by unfold State.drawIf; split <;> rfl
@[simp] theorem State.drawIf_flags : (s.drawIf b).flags = s.flags := by unfold State.drawIf; split <;> rfl
@[simp] theorem State.drawIf_run : (s.drawIf b).run = s.run := by unfold State.drawIf; split <;> rfl
@[simp] theorem State.drawIf_nmiInService : (s.drawIf b).nmiInService = s.nmiInService := by unfold State.drawIf; split <;> rfl
@[simp] theorem State.drawIf_cycles : (s.drawIf b).cycles = s.cycles := by unfold State.drawIf; split <;> rfl
@[simp] theorem State.drawIf_ram : (s.drawIf b).ram = s.ram := by unfold State.drawIf; split <;> rfl
@[simp] theorem State.drawIf_rom : (s.drawIf b).rom = s.rom := by unfold State.drawIf; split <;> rfl
@[simp] theorem State.drawIf_timer0 : (s.drawIf b).timer0 = s.timer0 := by unfold State.drawIf; split <;> rfl
@[simp] theorem State.drawIf_timer1 : (s.drawIf b).timer1 = s.timer1 := by unfold State.drawIf; split <;> rfl
@[simp] theorem State.drawIf_video : (s.drawIf b).video = s.video := by unfold State.drawIf; split <;> rfl
@[simp] theorem State.drawIf_params : (s.drawIf b).params = s.params := by unfold State.drawIf; split <;> rfl
@[simp] theorem State.drawIf_busWrites : (s.drawIf b).busWrites = s.busWrites := by unfold State.drawIf; split <;> rfl

@[simp] theorem State.afterRead_a : (s.afterRead a).a = s.a := by unfold State.afterRead; split <;> simp
@[simp] theorem State.afterRead_x : (s.afterRead a).x = s.x := by unfold State.afterRead; split <;> simp
@[simp] theorem State.afterRead_y : (s.afterRead a).y = s.y := by unfold State.afterRead; split <;> simp
@[simp] theorem State.afterRead_sp : (s.afterRead a).sp = s.sp := by unfold State.afterRead; split <;> simp
@[simp] theorem State.afterRead_pc : (s.afterRead a).pc = s.pc := by unfold State.afterRead; split <;> simp
@[simp] theorem State.afterRead_flags : (s.afterRead a).flags = s.flags := by unfold State.afterRead; split <;> simp
@[simp] theorem State.afterRead_run : (s.afterRead a).run = s.run := by unfold State.afterRead; split <;> simp
@[simp] theorem State.afterRead_nmiInService : (s.afterRead a).nmiInService = s.nmiInService := by unfold State.afterRead; split <;> simp
@[simp] theorem State.afterRead_cycles : (s.afterRead a).cycles = s.cycles := by unfold State.afterRead; split <;> simp
@[simp] theorem State.afterRead_ram : (s.afterRead a).ram = s.ram := by unfold State.afterRead; split <;> simp
@[simp] theorem State.afterRead_rom : (s.afterRead a).rom = s.rom := by unfold State.afterRead; split <;> simp
@[simp] theorem State.afterRead_params : (s.afterRead a).params = s.params := by unfold State.afterRead; split <;> simp
@[simp] theorem State.afterRead_busWrites : (s.afterRead a).busWrites = s.busWrites := by unfold State.afterRead; split <;> simp

@[simp] theorem State.busRead_fst : (s.busRead a).1 = s.peek a := rfl
@[simp] theorem State.busRead_snd : (s.busRead a).2 = s.afterRead a := rfl

@[simp] theorem State.afterRead_ramByte : (s.afterRead a).ramByte w = s.ramByte w := State.ramByte_congr (by simp)

/-- A read leaves the bank bits as they were, so every address reaches what it reached. -/
@[simp] theorem State.afterRead_regionOf : (s.afterRead a).regionOf w = s.regionOf w := by
  simp [State.regionOf, State.loram, State.hiram, State.charen]

/-- A read of an address that reaches no chip leaves the machine as it was (20_memory.md R63). -/
theorem State.afterRead_of_not_isChip (h : s.isChip a = false) : s.afterRead a = s := by
  unfold State.isChip at h
  unfold State.afterRead
  split at h <;> simp_all

@[simp] theorem State.writeRegion_a (r : Region) : (s.writeRegion r a v).a = s.a := by cases r <;> rfl
@[simp] theorem State.writeRegion_x (r : Region) : (s.writeRegion r a v).x = s.x := by cases r <;> rfl
@[simp] theorem State.writeRegion_y (r : Region) : (s.writeRegion r a v).y = s.y := by cases r <;> rfl
@[simp] theorem State.writeRegion_sp (r : Region) : (s.writeRegion r a v).sp = s.sp := by cases r <;> rfl
@[simp] theorem State.writeRegion_pc (r : Region) : (s.writeRegion r a v).pc = s.pc := by cases r <;> rfl
@[simp] theorem State.writeRegion_flags (r : Region) : (s.writeRegion r a v).flags = s.flags := by cases r <;> rfl
@[simp] theorem State.writeRegion_run (r : Region) : (s.writeRegion r a v).run = s.run := by cases r <;> rfl
@[simp] theorem State.writeRegion_nmiInService (r : Region) : (s.writeRegion r a v).nmiInService = s.nmiInService := by cases r <;> rfl
@[simp] theorem State.writeRegion_cycles (r : Region) : (s.writeRegion r a v).cycles = s.cycles := by cases r <;> rfl
@[simp] theorem State.writeRegion_rom (r : Region) : (s.writeRegion r a v).rom = s.rom := by cases r <;> rfl
@[simp] theorem State.writeRegion_params (r : Region) : (s.writeRegion r a v).params = s.params := by cases r <;> rfl
@[simp] theorem State.writeRegion_drawIndex (r : Region) : (s.writeRegion r a v).drawIndex = s.drawIndex := by cases r <;> rfl
@[simp] theorem State.writeRegion_busWrites (r : Region) : (s.writeRegion r a v).busWrites = s.busWrites := by cases r <;> rfl

@[simp] theorem State.busWrite_a : (s.busWrite a v).a = s.a := by simp [State.busWrite]
@[simp] theorem State.busWrite_x : (s.busWrite a v).x = s.x := by simp [State.busWrite]
@[simp] theorem State.busWrite_y : (s.busWrite a v).y = s.y := by simp [State.busWrite]
@[simp] theorem State.busWrite_sp : (s.busWrite a v).sp = s.sp := by simp [State.busWrite]
@[simp] theorem State.busWrite_pc : (s.busWrite a v).pc = s.pc := by simp [State.busWrite]
@[simp] theorem State.busWrite_flags : (s.busWrite a v).flags = s.flags := by simp [State.busWrite]
@[simp] theorem State.busWrite_run : (s.busWrite a v).run = s.run := by simp [State.busWrite]
@[simp] theorem State.busWrite_nmiInService : (s.busWrite a v).nmiInService = s.nmiInService := by simp [State.busWrite]
@[simp] theorem State.busWrite_cycles : (s.busWrite a v).cycles = s.cycles := by simp [State.busWrite]
@[simp] theorem State.busWrite_rom : (s.busWrite a v).rom = s.rom := by simp [State.busWrite]
@[simp] theorem State.busWrite_params : (s.busWrite a v).params = s.params := by simp [State.busWrite]
@[simp] theorem State.busWrite_drawIndex : (s.busWrite a v).drawIndex = s.drawIndex := by simp [State.busWrite]
@[simp] theorem State.busWrite_busWrites : (s.busWrite a v).busWrites = a :: s.busWrites := by simp [State.busWrite]

/-- A write reaches no byte of RAM but the one it addresses. -/
theorem State.busWrite_ramByte_ne (h : w ≠ a) : (s.busWrite a v).ramByte w = s.ramByte w := by
  simp only [State.busWrite]
  cases s.regionOf a <;> first | exact State.ramByte_setRamByte_ne h | rfl

/-- A write to RAM puts the byte there (20_memory.md R57). -/
theorem State.busWrite_ramByte_eq (hs : Memory.wf s.ram = true) (hr : s.regionOf a = .ram) :
    (s.busWrite a v).ramByte a = v := by
  simp only [State.busWrite, hr]
  exact State.ramByte_setRamByte_eq hs

/-- A write that reaches no RAM leaves RAM as it was (20_memory.md R57). -/
theorem State.busWrite_ram_of_ne (hr : s.regionOf a ≠ .ram) : (s.busWrite a v).ram = s.ram := by
  simp only [State.busWrite]
  generalize hq : s.regionOf a = r at hr
  cases r <;> simp_all [State.writeRegion]

/-- A write keeps RAM canonical. -/
theorem State.busWrite_wf (hs : Memory.wf s.ram = true) : Memory.wf (s.busWrite a v).ram = true := by
  simp only [State.busWrite]
  cases s.regionOf a <;> first | exact State.setRamByte_wf hs | exact hs

/-- A write that does not reach timer 0 leaves it as it was, and so for the other chips. -/
theorem State.busWrite_timer0_of_ne (hr : s.regionOf a ≠ .timer0) : (s.busWrite a v).timer0 = s.timer0 := by
  simp only [State.busWrite]
  generalize hq : s.regionOf a = r at hr
  cases r <;> simp_all [State.writeRegion]

theorem State.busWrite_timer1_of_ne (hr : s.regionOf a ≠ .timer1) : (s.busWrite a v).timer1 = s.timer1 := by
  simp only [State.busWrite]
  generalize hq : s.regionOf a = r at hr
  cases r <;> simp_all [State.writeRegion]

theorem State.busWrite_video_of_ne (hr : s.regionOf a ≠ .video) : (s.busWrite a v).video = s.video := by
  simp only [State.busWrite]
  generalize hq : s.regionOf a = r at hr
  cases r <;> simp_all [State.writeRegion]

/-- The stack page is RAM in every bank setting (20_memory.md R66). -/
theorem stackAddr_toNat (sp : Byte) : (stackAddr sp).toNat = 256 + sp.toNat := by
  have h : (stackAddr sp).toNat = 1 <<< 8 ||| sp.toNat := BitVec.toNat_append 1#8 sp
  rw [h, ← Nat.shiftLeft_add_eq_or_of_lt sp.isLt, Nat.shiftLeft_eq]

theorem region_low {a : Word} (h : a.toNat < 0xA000) (l hi c : Bool) : region a l hi c = .ram := by
  unfold region
  rw [if_neg (by omega), if_neg (by omega), if_neg (by omega)]

@[simp] theorem State.regionOf_stackAddr (sp : Byte) : s.regionOf (stackAddr sp) = .ram :=
  region_low (by have := stackAddr_toNat sp; have := sp.isLt; omega) _ _ _

theorem stackAddr_injective {p q : Byte} (h : stackAddr p = stackAddr q) : p = q := by
  have := congrArg BitVec.toNat h
  rw [stackAddr_toNat, stackAddr_toNat] at this
  exact BitVec.eq_of_toNat_eq (by omega)

@[simp] theorem stackAddr_ne_one (p : Byte) : stackAddr p ≠ 0x0001#16 := by
  intro h
  have := congrArg BitVec.toNat h
  rw [stackAddr_toNat] at this
  simp at this
  omega

@[simp] theorem State.push_a : (s.push v).a = s.a := by simp [State.push]
@[simp] theorem State.push_x : (s.push v).x = s.x := by simp [State.push]
@[simp] theorem State.push_y : (s.push v).y = s.y := by simp [State.push]
@[simp] theorem State.push_pc : (s.push v).pc = s.pc := by simp [State.push]
@[simp] theorem State.push_flags : (s.push v).flags = s.flags := by simp [State.push]
@[simp] theorem State.push_run : (s.push v).run = s.run := by simp [State.push]
@[simp] theorem State.push_nmiInService : (s.push v).nmiInService = s.nmiInService := by simp [State.push]
@[simp] theorem State.push_cycles : (s.push v).cycles = s.cycles := by simp [State.push]
@[simp] theorem State.push_rom : (s.push v).rom = s.rom := by simp [State.push]
@[simp] theorem State.push_params : (s.push v).params = s.params := by simp [State.push]
@[simp] theorem State.push_drawIndex : (s.push v).drawIndex = s.drawIndex := by simp [State.push]
@[simp] theorem State.push_sp : (s.push v).sp = s.sp - 1#8 := rfl
@[simp] theorem State.push_busWrites : (s.push v).busWrites = stackAddr s.sp :: s.busWrites := by simp [State.push]
@[simp] theorem State.push_timer0 : (s.push v).timer0 = s.timer0 := by
  simp [State.push, State.busWrite_timer0_of_ne]
@[simp] theorem State.push_timer1 : (s.push v).timer1 = s.timer1 := by
  simp [State.push, State.busWrite_timer1_of_ne]
@[simp] theorem State.push_video : (s.push v).video = s.video := by
  simp [State.push, State.busWrite_video_of_ne]

/-- A push writes its byte at `$0100 | S` (10_state.md R24). -/
theorem State.push_ramByte_eq (hs : Memory.wf s.ram = true) : (s.push v).ramByte (stackAddr s.sp) = v := by
  simpa [State.push] using (State.ramByte_congr (by simp)).trans (State.busWrite_ramByte_eq s _ v hs (by simp))

/-- A push writes no other byte. -/
theorem State.push_ramByte_ne (h : w ≠ stackAddr s.sp) : (s.push v).ramByte w = s.ramByte w := by
  have h1 : (s.push v).ramByte w = (s.busWrite (stackAddr s.sp) v).ramByte w :=
    State.ramByte_congr (by simp [State.push])
  rw [h1, State.busWrite_ramByte_ne _ _ _ _ h]

theorem State.push_wf (hs : Memory.wf s.ram = true) : Memory.wf (s.push v).ram = true := by
  simpa [State.push] using State.busWrite_wf s (stackAddr s.sp) v hs

/-- A push leaves the bank bits as they were. -/
@[simp] theorem State.push_regionOf : (s.push v).regionOf w = s.regionOf w := by
  have h : (s.push v).ramByte 0x0001#16 = s.ramByte 0x0001#16 :=
    State.push_ramByte_ne s _ v (Ne.symm (stackAddr_ne_one _))
  simp [State.regionOf, State.loram, State.hiram, State.charen, h]

/-- A pull reads RAM and touches nothing but S (00_scope.md R9, 20_memory.md R63). -/
theorem State.pull_eq : s.pull = (s.ramByte (stackAddr (s.sp + 1#8)), s.setSp (s.sp + 1#8)) := by
  have hr : (s.setSp (s.sp + 1#8)).regionOf (stackAddr (s.sp + 1#8)) = .ram := State.regionOf_stackAddr _ _
  simp only [State.pull, State.busRead, State.peek, State.afterRead, hr]
  rfl

/-- Pulling a word reads two bytes of the stack, low byte first, and touches nothing but S. -/
theorem State.pullWord_eq : s.pullWord =
    (wordOf (s.ramByte (stackAddr (s.sp + 2#8))) (s.ramByte (stackAddr (s.sp + 1#8))), s.setSp (s.sp + 2#8)) := by
  have h : s.sp + 1#8 + 1#8 = s.sp + 2#8 := by rw [BitVec.add_assoc]; rfl
  simp only [State.pullWord, State.pull_eq, State.setSp_sp, h]
  rfl

@[simp] theorem State.read16_a : (s.read16 a).2.a = s.a := by simp [State.read16]
@[simp] theorem State.read16_x : (s.read16 a).2.x = s.x := by simp [State.read16]
@[simp] theorem State.read16_y : (s.read16 a).2.y = s.y := by simp [State.read16]
@[simp] theorem State.read16_sp : (s.read16 a).2.sp = s.sp := by simp [State.read16]
@[simp] theorem State.read16_pc : (s.read16 a).2.pc = s.pc := by simp [State.read16]
@[simp] theorem State.read16_flags : (s.read16 a).2.flags = s.flags := by simp [State.read16]
@[simp] theorem State.read16_run : (s.read16 a).2.run = s.run := by simp [State.read16]
@[simp] theorem State.read16_nmiInService : (s.read16 a).2.nmiInService = s.nmiInService := by simp [State.read16]
@[simp] theorem State.read16_cycles : (s.read16 a).2.cycles = s.cycles := by simp [State.read16]
@[simp] theorem State.read16_ram : (s.read16 a).2.ram = s.ram := by simp [State.read16]
@[simp] theorem State.read16_rom : (s.read16 a).2.rom = s.rom := by simp [State.read16]
@[simp] theorem State.read16_params : (s.read16 a).2.params = s.params := by simp [State.read16]
@[simp] theorem State.read16_busWrites : (s.read16 a).2.busWrites = s.busWrites := by simp [State.read16]

/-- What lies at $FFFA to $FFFF is ROM or RAM in every bank setting, so that fetching a vector reads two bytes and
has no effect (20_memory.md R66). -/
theorem State.regionOf_vector {a : Word} (h : 0xE000 ≤ a.toNat) : s.regionOf a = .kernalRom ∨ s.regionOf a = .ram := by
  unfold State.regionOf region
  split_ifs <;> first | omega | simp

theorem State.isChip_of_vector {a : Word} (h : 0xE000 ≤ a.toNat) : s.isChip a = false := by
  unfold State.isChip
  rcases s.regionOf_vector h with h | h <;> simp [h]

/-- A vector fetch: two bytes, no effect. -/
theorem State.read16_vector {a : Word} (h : 0xE000 ≤ a.toNat) (h1 : 0xE000 ≤ (a + 1#16).toNat) :
    s.read16 a = (wordOf (s.peek (a + 1#16)) (s.peek a), s) := by
  simp [State.read16, s.afterRead_of_not_isChip a (s.isChip_of_vector h),
    s.afterRead_of_not_isChip (a + 1#16) (s.isChip_of_vector h1)]

end Sys2Proof.Machine
end

