-- ==== Sys2Proof/Laws/Chips.lean ====
section
/-! SUPPORT. The laws of the chips (Machine/Chips.lean): what advancing them does to each field of a State, and that
every tick, read and write keeps each chip's ranges. -/

namespace Sys2Proof.Machine

variable (s : State) (c : Nat)

@[simp] theorem State.advanceChips_a : (State.advanceChips c s).a = s.a := by
  induction c generalizing s with
  | zero => rfl
  | succ n ih => simp [State.advanceChips, ih]
@[simp] theorem State.advanceChips_x : (State.advanceChips c s).x = s.x := by
  induction c generalizing s with
  | zero => rfl
  | succ n ih => simp [State.advanceChips, ih]
@[simp] theorem State.advanceChips_y : (State.advanceChips c s).y = s.y := by
  induction c generalizing s with
  | zero => rfl
  | succ n ih => simp [State.advanceChips, ih]
@[simp] theorem State.advanceChips_sp : (State.advanceChips c s).sp = s.sp := by
  induction c generalizing s with
  | zero => rfl
  | succ n ih => simp [State.advanceChips, ih]
@[simp] theorem State.advanceChips_pc : (State.advanceChips c s).pc = s.pc := by
  induction c generalizing s with
  | zero => rfl
  | succ n ih => simp [State.advanceChips, ih]
@[simp] theorem State.advanceChips_flags : (State.advanceChips c s).flags = s.flags := by
  induction c generalizing s with
  | zero => rfl
  | succ n ih => simp [State.advanceChips, ih]
@[simp] theorem State.advanceChips_run : (State.advanceChips c s).run = s.run := by
  induction c generalizing s with
  | zero => rfl
  | succ n ih => simp [State.advanceChips, ih]
@[simp] theorem State.advanceChips_nmiInService : (State.advanceChips c s).nmiInService = s.nmiInService := by
  induction c generalizing s with
  | zero => rfl
  | succ n ih => simp [State.advanceChips, ih]
@[simp] theorem State.advanceChips_cycles : (State.advanceChips c s).cycles = s.cycles := by
  induction c generalizing s with
  | zero => rfl
  | succ n ih => simp [State.advanceChips, ih]
@[simp] theorem State.advanceChips_ram : (State.advanceChips c s).ram = s.ram := by
  induction c generalizing s with
  | zero => rfl
  | succ n ih => simp [State.advanceChips, ih]
@[simp] theorem State.advanceChips_rom : (State.advanceChips c s).rom = s.rom := by
  induction c generalizing s with
  | zero => rfl
  | succ n ih => simp [State.advanceChips, ih]
@[simp] theorem State.advanceChips_timer0 : (State.advanceChips c s).timer0 = Timer.ticks c s.timer0 := by
  induction c generalizing s with
  | zero => rfl
  | succ n ih => simp [State.advanceChips, ih, Timer.ticks]
@[simp] theorem State.advanceChips_timer1 : (State.advanceChips c s).timer1 = Timer.ticks c s.timer1 := by
  induction c generalizing s with
  | zero => rfl
  | succ n ih => simp [State.advanceChips, ih, Timer.ticks]
@[simp] theorem State.advanceChips_video : (State.advanceChips c s).video = Video.ticks s.params c s.video := by
  induction c generalizing s with
  | zero => rfl
  | succ n ih => simp [State.advanceChips, ih, Video.ticks]
@[simp] theorem State.advanceChips_params : (State.advanceChips c s).params = s.params := by
  induction c generalizing s with
  | zero => rfl
  | succ n ih => simp [State.advanceChips, ih]
@[simp] theorem State.advanceChips_drawIndex : (State.advanceChips c s).drawIndex = s.drawIndex := by
  induction c generalizing s with
  | zero => rfl
  | succ n ih => simp [State.advanceChips, ih]
@[simp] theorem State.advanceChips_busWrites : (State.advanceChips c s).busWrites = s.busWrites := by
  induction c generalizing s with
  | zero => rfl
  | succ n ih => simp [State.advanceChips, ih]

variable {t : Timer} {v : Video} {p : Params}

theorem Timer.tick_wf (h : t.wf = true) : t.tick.wf = true := by
  unfold Timer.tick
  split_ifs <;> exact h

theorem Timer.ticks_wf (h : t.wf = true) : (Timer.ticks c t).wf = true := by
  induction c generalizing t with
  | zero => exact h
  | succ n ih => exact ih (Timer.tick_wf h)

theorem Timer.afterRead_wf (off : BitVec 4) (h : t.wf = true) : (t.afterRead off).wf = true := by
  unfold Timer.afterRead
  split_ifs <;> exact h

/-- Only a write of the control byte touches `ctrl_other`, and it stores bits 7, 6, 5, 2 and 1 alone (R257). -/
theorem Timer.write_wf (off : BitVec 4) (b : Byte) (h : t.wf = true) : (t.write off b).wf = true := by
  unfold Timer.write Timer.writeHigh Timer.writeMask Timer.writeControl
  split_ifs <;> first | exact h | (simp only [Timer.wf, decide_eq_true_eq, BitVec.and_assoc]; simp)

theorem Video.afterRead_wf (off : BitVec 6) (h : v.wf p = true) : (v.afterRead off).wf p = true := by
  unfold Video.afterRead
  split_ifs <;> exact h

theorem Video.write_wf (off : BitVec 6) (b : Byte) (h : v.wf p = true) : (v.write off b).wf p = true := by
  unfold Video.write
  split_ifs <;> exact h

/-- A line advance stays inside the frame: the line counter holds every line of at most 512. -/
theorem Video.lineAdvance_raster (hp : p.wf = true) :
    (v.lineAdvance p).raster.toNat = (v.raster.toNat + 1) % p.linesPerFrame := by
  simp only [Params.wf, Bool.and_eq_true, decide_eq_true_eq] at hp
  have : (v.raster.toNat + 1) % p.linesPerFrame < p.linesPerFrame := Nat.mod_lt _ hp.1.2
  simp only [Video.lineAdvance, BitVec.toNat_ofNat]
  exact Nat.mod_eq_of_lt (by omega)

theorem Video.tick_wf (hp : p.wf = true) (h : v.wf p = true) : (v.tick p).wf p = true := by
  have hp' := hp
  simp only [Params.wf, Bool.and_eq_true, decide_eq_true_eq] at hp
  simp only [Video.wf, Bool.and_eq_true, decide_eq_true_eq] at h ⊢
  unfold Video.tick
  split_ifs with hl
  · refine ⟨?_, hp.1.1⟩
    rw [Video.lineAdvance_raster hp']
    exact Nat.mod_lt _ hp.1.2
  · exact ⟨h.1, by change v.lineAcc + 1 < _; omega⟩

theorem Video.ticks_wf (hp : p.wf = true) (h : v.wf p = true) : (Video.ticks p c v).wf p = true := by
  induction c generalizing v with
  | zero => exact h
  | succ n ih => exact ih (Video.tick_wf hp h)

end Sys2Proof.Machine
end

