-- ==== Sys2Proof/Laws/Decode.lean ====
section
/-! SUPPORT. The laws of bytes, words and the opcode map (Decode.lean): splitting and joining a 16-bit value, and that
the map leaves out exactly the illegal opcodes of R107. -/

namespace Sys2Proof

variable (hi lo : Byte) (w : Word)

theorem wordOf_toNat : (wordOf hi lo).toNat = hi.toNat * 256 + lo.toNat := by
  simp only [wordOf, BitVec.toNat_append]
  rw [← Nat.shiftLeft_add_eq_or_of_lt lo.isLt, Nat.shiftLeft_eq]

theorem lo8_toNat : (lo8 w).toNat = w.toNat % 256 := by
  simp [lo8, BitVec.extractLsb'_toNat]

theorem hi8_toNat : (hi8 w).toNat = w.toNat / 256 := by
  have := w.isLt
  simp [hi8, BitVec.extractLsb'_toNat, Nat.shiftRight_eq_div_pow]
  omega

@[simp] theorem lo8_wordOf : lo8 (wordOf hi lo) = lo := by
  apply BitVec.eq_of_toNat_eq
  have := lo.isLt
  rw [lo8_toNat, wordOf_toNat]
  omega

@[simp] theorem hi8_wordOf : hi8 (wordOf hi lo) = hi := by
  apply BitVec.eq_of_toNat_eq
  have := lo.isLt
  rw [hi8_toNat, wordOf_toNat]
  omega

@[simp] theorem wordOf_hi8_lo8 : wordOf (hi8 w) (lo8 w) = w := by
  apply BitVec.eq_of_toNat_eq
  rw [wordOf_toNat, hi8_toNat, lo8_toNat]
  omega

/-- The opcode map has no entry for exactly the illegal opcodes (30_encoding.md R107). -/
theorem opcodeShape_isNone (op : Byte) : (opcodeShape op).isNone = illegalOpcodes.contains op := by
  revert op
  decide +kernel

end Sys2Proof
end

