-- ==== Sys2Proof/Laws/Operands.lean ====
section
/-! SUPPORT. The laws of the operand forms (Machine/Operands.lean): pointers lie in page zero, which is RAM, so that
finding an effective address has no effect; reading an operand is one bus read. -/

namespace Sys2Proof.Machine

variable (s : State) (b z : Byte) (w : Word) (m : MemMode) (o : Src)

theorem zext16_toNat : (zext16 b).toNat = b.toNat := by
  simp only [zext16, wordOf, BitVec.toNat_append]
  simp

/-- Page zero is RAM under every bank setting (20_memory.md R54). -/
theorem State.regionOf_zext16 : s.regionOf (zext16 z) = .ram :=
  region_low (by rw [zext16_toNat]; have := z.isLt; omega) _ _ _

theorem State.afterRead_of_ram {s : State} {a : Word} (h : s.regionOf a = .ram) : s.afterRead a = s := by
  simp [State.afterRead, h]

theorem State.peek_of_ram {s : State} {a : Word} (h : s.regionOf a = .ram) : s.peek a = s.ramByte a := by
  simp [State.peek, h]

/-- A page-zero pointer is the two RAM bytes, and reading it has no effect (30_encoding.md R102, R103). -/
theorem State.readPointer_eq :
    s.readPointer z = (wordOf (s.ramByte (zext16 (z + 1#8))) (s.ramByte (zext16 z)), s) := by
  simp [State.readPointer, State.afterRead_of_ram (s.regionOf_zext16 _), State.peek_of_ram (s.regionOf_zext16 _)]

/-- Finding an effective address changes nothing. -/
@[simp] theorem resolve_st : (resolve m s).st = s := by
  cases m <;> simp [resolve, indexed, State.readPointer_eq]

/-- A memory operand is one bus read of its effective address (40_load_store_transfer.md R120 (c)). -/
theorem operand_mem :
    operand (.mem m) s =
      ⟨s.peek (resolve m s).addr, (resolve m s).cross, s.afterRead (resolve m s).addr⟩ := by
  simp [operand]

theorem operand_imm : operand (.imm b) s = ⟨b, false, s⟩ := rfl

@[simp] theorem operand_a : (operand o s).st.a = s.a := by cases o <;> simp [operand]
@[simp] theorem operand_x : (operand o s).st.x = s.x := by cases o <;> simp [operand]
@[simp] theorem operand_y : (operand o s).st.y = s.y := by cases o <;> simp [operand]
@[simp] theorem operand_sp : (operand o s).st.sp = s.sp := by cases o <;> simp [operand]
@[simp] theorem operand_pc : (operand o s).st.pc = s.pc := by cases o <;> simp [operand]
@[simp] theorem operand_flags : (operand o s).st.flags = s.flags := by cases o <;> simp [operand]
@[simp] theorem operand_run : (operand o s).st.run = s.run := by cases o <;> simp [operand]
@[simp] theorem operand_nmiInService : (operand o s).st.nmiInService = s.nmiInService := by
  cases o <;> simp [operand]
@[simp] theorem operand_cycles : (operand o s).st.cycles = s.cycles := by cases o <;> simp [operand]
@[simp] theorem operand_ram : (operand o s).st.ram = s.ram := by cases o <;> simp [operand]
@[simp] theorem operand_rom : (operand o s).st.rom = s.rom := by cases o <;> simp [operand]
@[simp] theorem operand_params : (operand o s).st.params = s.params := by cases o <;> simp [operand]
@[simp] theorem operand_busWrites : (operand o s).st.busWrites = s.busWrites := by cases o <;> simp [operand]

/-- Only indexing crosses a page, and an instruction counts at most one cycle for it (30_encoding.md R111). -/
theorem operand_cross_le : (operand o s).cross.toNat ≤ 1 := by
  cases (operand o s).cross <;> simp

end Sys2Proof.Machine
end

