-- ==== Sys2Proof/Laws/Frame.lean ====
section
/-! SUPPORT. The laws of frames (Safety.lean): they compose, and what the bus operations leave alone, said as frames. -/

namespace Sys2Proof.Machine

variable {s t u : State} {l l' : List Field} {a : Word} {v : Byte}

theorem agreeOn_trans {f : Field} (h : agreeOn s t f) (h' : agreeOn t u f) : agreeOn s u f := by
  cases f <;> simp_all [agreeOn]

theorem AgreeExcept.refl (s : State) (l : List Field) : AgreeExcept l s s := by
  intro f _
  cases f <;> simp [agreeOn]

theorem AgreeExcept.trans (h : AgreeExcept l s t) (h' : AgreeExcept l t u) : AgreeExcept l s u :=
  fun f hf => agreeOn_trans (h f hf) (h' f hf)

theorem AgreeExcept.mono (h : AgreeExcept l s t) (hl : l ⊆ l') : AgreeExcept l' s t :=
  fun f hf => h f fun hm => hf (hl hm)

theorem SameRamBut.of_ram_eq {l : List Word} (h : t.ram = s.ram) : SameRamBut l s t :=
  fun _ _ => State.ramByte_congr h

/-- A read touches the chips and the draw index alone (20_memory.md R64). -/
theorem State.afterRead_frame (s : State) (a : Word) :
    AgreeExcept [.timer0, .timer1, .video, .drawIndex] s (s.afterRead a) := by
  intro f hf
  cases f <;> simp_all [agreeOn]

/-- A write touches RAM, the chips and the record of writes alone (20_memory.md R57). -/
theorem State.busWrite_frame (s : State) (a : Word) (v : Byte) :
    AgreeExcept [.ram, .timer0, .timer1, .video, .busWrites] s (s.busWrite a v) := by
  intro f hf
  cases f <;> simp_all [agreeOn]

/-- A write changes no byte of RAM but the one at its address. -/
theorem State.busWrite_sameRamBut (s : State) (a : Word) (v : Byte) : SameRamBut [a] s (s.busWrite a v) :=
  fun w hw => State.busWrite_ramByte_ne _ _ _ _ (by simpa using hw)

end Sys2Proof.Machine
end

