-- ==== Sys2Proof/Laws/Step.lean ====
section
/-! SUPPORT. What a step can do, said once: taking an interrupt and returning from one (Machine/Ops.lean), the fetch
(Machine/Fetch.lean), and the ways a step goes (Machine/Step.lean). -/

namespace Sys2Proof.Machine

variable (s t : State) (ret w vec : Word) (b : Bool)

theorem stackAddr_sub_one_ne (p : Byte) : stackAddr (p - 1#8) ≠ stackAddr p := by
  intro h
  have := stackAddr_injective h
  bv_omega

theorem stackAddr_sub_two_ne (p : Byte) : stackAddr (p - 2#8) ≠ stackAddr p := by
  intro h
  have := stackAddr_injective h
  bv_omega

/-- A word pushed: the two bytes under S, high byte first, and no other byte (00_scope.md R9, R200). -/
theorem State.pushWord_spec (hs : Memory.wf s.ram = true) :
    (s.pushWord w).ramByte (stackAddr s.sp) = hi8 w ∧ (s.pushWord w).ramByte (stackAddr (s.sp - 1#8)) = lo8 w ∧
      SameRamBut [stackAddr s.sp, stackAddr (s.sp - 1#8)] s (s.pushWord w) ∧ (s.pushWord w).sp = s.sp - 2#8 := by
  have h1 := State.push_ramByte_eq (s.push (hi8 w)) (lo8 w) (State.push_wf _ _ hs)
  rw [State.push_sp] at h1
  refine ⟨?_, h1, ?_, ?_⟩
  · rw [State.pushWord, State.push_ramByte_ne _ _ _ (by simpa using (stackAddr_sub_one_ne s.sp).symm),
      State.push_ramByte_eq _ _ hs]
  · intro x hx
    simp only [List.mem_cons, List.not_mem_nil, or_false, not_or] at hx
    rw [State.pushWord, State.push_ramByte_ne _ _ _ (by simpa using hx.2), State.push_ramByte_ne _ _ _ hx.1]
  · simp [State.pushWord, BitVec.sub_sub]

/-- Taking an interrupt through a vector in the KERNAL's range is three pushes, I set, and PC at the vector; the
vector's read has no effect (60_exceptions.md R235). -/
theorem State.enter_eq (h : 0xE000 ≤ vec.toNat) (h1 : 0xE000 ≤ (vec + 1#16).toNat) :
    s.enter ret b vec =
      (((s.pushWord ret).push (packP b s.flags)).setFlags { s.flags with i := true }).setPc
        (((s.pushWord ret).push (packP b s.flags)).vectorAt vec) := by
  simp [State.enter, State.read16_vector _ h h1, State.pushWord, State.vectorAt]
  rfl

/-- What a read finds is a matter of the RAM byte there, the ROMs, the chips, the draw index and the region. -/
theorem State.peek_congr {s t : State} {a : Word} (hr : t.regionOf a = s.regionOf a) (hb : t.ramByte a = s.ramByte a)
    (h : AgreeExcept [.a, .x, .y, .sp, .pc, .n, .v, .d, .i, .z, .c, .run, .nmiInService, .cycles, .ram, .params,
      .busWrites] s t) : t.peek a = s.peek a := by
  have h1 := h .rom (by decide)
  have h2 := h .timer0 (by decide)
  have h3 := h .timer1 (by decide)
  have h4 := h .video (by decide)
  have h5 := h .drawIndex (by decide)
  simp only [agreeOn] at h1 h2 h3 h4 h5
  simp only [State.peek, hr, hb, State.basicByte, State.kernalByte, State.charByte, h1, h2, h3, h4, h5]

/-- Pushing changes no read outside the stack page: page one is RAM and holds no bank bits. -/
theorem State.push_peek (v : Byte) (a : Word) (h : a ≠ stackAddr s.sp) : (s.push v).peek a = s.peek a := by
  refine State.peek_congr (State.push_regionOf _ _ _) (State.push_ramByte_ne _ _ _ h) fun f hf => ?_
  cases f <;> simp_all [agreeOn]

/-- Return from interrupt is the status byte, then PC, off the stack (42_control_system.md R202). -/
theorem State.leave_eq :
    s.leave =
      (((s.setSp (s.sp + 3#8)).setFlags (unpackP (s.ramByte (stackAddr (s.sp + 1#8))))).setPc
        (wordOf (s.ramByte (stackAddr (s.sp + 3#8))) (s.ramByte (stackAddr (s.sp + 2#8))))).setNmiInService false := by
  have h2 : s.sp + 1#8 + 1#8 = s.sp + 2#8 := by rw [BitVec.add_assoc]; rfl
  have h3 : s.sp + 1#8 + 2#8 = s.sp + 3#8 := by rw [BitVec.add_assoc]; rfl
  simp only [State.leave, State.pull_eq, State.pullWord_eq, State.setFlags_sp, State.setSp_sp, h2, h3]
  rfl

/-- A halted machine stays as it is (60_exceptions.md R240). -/
theorem step_of_halted {op : Byte} {a : Word} (h : s.run = .halted op a) : step s = .next s := by
  simp [step, h]

/-- A running machine's step, by what the sampling point and the fetch give (60_exceptions.md R231). -/
theorem step_of_running (h : s.run = .running) :
    step s =
      match s.beginStep.interruptEntry with
      | some t => .next (s.beginStep.endStep t)
      | none =>
        match s.beginStep.fetch with
        | .illegal op t => .next (t.halt op)
        | .instr i t => runInstr i t := by
  simp only [step, h]
  rfl

/-- The beginning of a step changes neither the lines nor what is read. -/
@[simp] theorem State.beginStep_interruptLines : s.beginStep.takesNmi = s.takesNmi ∧ s.beginStep.takesIrq = s.takesIrq :=
  ⟨rfl, rfl⟩

@[simp] theorem State.beginStep_peek (a : Word) : s.beginStep.peek a = s.peek a := rfl

end Sys2Proof.Machine
end

