-- ==== Sys2Proof/Laws/Exec.lean ====
section
/-! SUPPORT. Everything an instruction and a step are made of: a relation between states that each primitive operation
of Machine/Ops.lean keeps is kept by every meaning, by every interrupt entry and by every step. -/

namespace Sys2Proof.Machine

/-- A relation between an earlier and a later state that every primitive operation of an instruction keeps. -/
structure KeptByOps (P : State → State → Prop) : Prop where
  refl : ∀ s, P s s
  trans : ∀ {s t u}, P s t → P t u → P s u
  setA : ∀ s v, P s (s.setA v)
  setX : ∀ s v, P s (s.setX v)
  setY : ∀ s v, P s (s.setY v)
  setSp : ∀ s v, P s (s.setSp v)
  setPc : ∀ s v, P s (s.setPc v)
  setFlags : ∀ s f, P s (s.setFlags f)
  clearNmi : ∀ s, P s (s.setNmiInService false)
  addCycles : ∀ s c, P s (s.addCycles c)
  nextDraw : ∀ s, P s s.nextDraw
  afterRead : ∀ s a, P s (s.afterRead a)
  busWrite : ∀ s a v, P s (s.busWrite a v)

/-- A relation that the operations of a step around its instruction keep as well. -/
structure KeptByStep (P : State → State → Prop) : Prop extends KeptByOps P where
  beginStep : ∀ s, P s s.beginStep
  setNmi : ∀ s, P s (s.setNmiInService true)
  halt : ∀ s op, P s (s.halt op)
  advanceChips : ∀ s c, P s (State.advanceChips c s)

variable {P : State → State → Prop} {s t : State}

namespace KeptByOps

theorem finish (h : KeptByOps P) (n c : Nat) : P s (s.finish n c) := h.trans (h.setPc _ _) (h.addCycles _ _)
theorem jump (h : KeptByOps P) (w : Word) (c : Nat) : P s (s.jump w c) := h.trans (h.setPc _ _) (h.addCycles _ _)

theorem operand (h : KeptByOps P) (o : Src) : P s (operand o s).st := by
  cases o with
  | imm b => exact h.refl s
  | mem m => rw [operand_mem]; exact h.afterRead _ _

theorem push (h : KeptByOps P) (v : Byte) : P s (s.push v) := h.trans (h.busWrite _ _ _) (h.setSp _ _)

theorem pushWord (h : KeptByOps P) (w : Word) : P s (s.pushWord w) := h.trans (h.push _) (h.push _)

theorem pull (h : KeptByOps P) : P s s.pull.2 := by
  rw [State.pull_eq]
  exact h.setSp _ _

theorem pullWord (h : KeptByOps P) : P s s.pullWord.2 := by
  rw [State.pullWord_eq]
  exact h.setSp _ _

theorem read16 (h : KeptByOps P) (a : Word) : P s (s.read16 a).2 := h.trans (h.afterRead _ _) (h.afterRead _ _)

theorem readIndirect (h : KeptByOps P) (a : Word) : P s (s.readIndirect a).2 :=
  h.trans (h.afterRead _ _) (h.afterRead _ _)

theorem enter (h : KeptByOps P) (ret : Word) (b : Bool) (vec : Word) : P s (s.enter ret b vec) :=
  h.trans (h.pushWord _) (h.trans (h.push _) (h.trans (h.setFlags _ _) (h.trans (h.read16 _) (h.setPc _ _))))

theorem leave (h : KeptByOps P) : P s s.leave :=
  h.trans h.pull (h.trans (h.setFlags _ _) (h.trans h.pullWord (h.trans (h.setPc _ _) (h.clearNmi _))))

theorem drawIf (h : KeptByOps P) (b : Bool) : P s (s.drawIf b) := by
  cases b
  · exact h.refl s
  · exact h.nextDraw s

theorem applyAlu (h : KeptByOps P) (res : AluResult) : P s (applyAlu res s) :=
  h.trans (h.setA _ _) (h.trans (h.setFlags _ _) (h.drawIf _))

theorem loadA (h : KeptByOps P) (m : Byte) : P s (loadA m s) := h.trans (h.setA _ _) (h.setFlags _ _)
theorem loadX (h : KeptByOps P) (m : Byte) : P s (loadX m s) := h.trans (h.setX _ _) (h.setFlags _ _)
theorem loadY (h : KeptByOps P) (m : Byte) : P s (loadY m s) := h.trans (h.setY _ _) (h.setFlags _ _)

variable {len base : Nat}

theorem readOp (h : KeptByOps P) {f : Byte → State → State} (hf : ∀ m u, P u (f m u)) {o : Src}
    (e : Machine.readOp f o len base s = .next t) : P s t := by
  cases e
  exact h.trans (h.operand o) (h.trans (hf _ _) (h.finish _ _))

theorem storeOp (h : KeptByOps P) {reg : State → Byte} {m : MemMode}
    (e : Machine.storeOp reg m len base s = .next t) : P s t := by
  cases e
  rw [resolve_st]
  exact h.trans (h.busWrite _ _ _) (h.finish _ _)

theorem modifyOp (h : KeptByOps P) {f : Byte → Flags → Byte × Flags} {m : MemMode}
    (e : Machine.modifyOp f m len base s = .next t) : P s t := by
  cases e
  simp only [resolve_st, State.busRead_snd]
  exact h.trans (h.afterRead _ _) (h.trans (h.busWrite _ _ _) (h.trans (h.setFlags _ _) (h.finish _ _)))

theorem modifyAcc (h : KeptByOps P) {f : Byte → Flags → Byte × Flags}
    (e : Machine.modifyAcc f len base s = .next t) : P s t := by
  cases e
  exact h.trans (h.setA _ _) (h.trans (h.setFlags _ _) (h.finish _ _))

theorem impliedOp (h : KeptByOps P) {f : State → State} (hf : ∀ u, P u (f u))
    (e : Machine.impliedOp f len base s = .next t) : P s t := by
  cases e
  exact h.trans (hf _) (h.finish _ _)

theorem branchOp (h : KeptByOps P) {cond : State → Bool} {off : Byte}
    (e : Machine.branchOp cond off s = .next t) : P s t := by
  unfold Machine.branchOp at e
  split_ifs at e <;> cases e <;> exact h.jump _ _

/-- Every meaning keeps what the primitive operations keep. -/
theorem exec (h : KeptByOps P) {i : Instr} (e : Machine.exec i s = .next t) : P s t := by
  cases i with
  | ldaIzx _ | ldaZp _ | ldaImm _ | ldaAbs _ | ldaIzy _ | ldaZpx _ | ldaAbsy _ | ldaAbsx _ | andIzx _ | andZp _
  | andImm _ | andAbs _ | andIzy _ | andZpx _ | andAbsy _ | andAbsx _ | oraIzx _ | oraZp _ | oraImm _
  | oraAbs _ | oraIzy _ | oraZpx _ | oraAbsy _ | oraAbsx _ | eorIzx _ | eorZp _ | eorImm _ | eorAbs _
  | eorIzy _ | eorZpx _ | eorAbsy _ | eorAbsx _ =>
    exact h.readOp (fun _ _ => h.loadA _) e
  | ldxImm _ | ldxZp _ | ldxAbs _ | ldxZpy _ | ldxAbsy _ =>
    exact h.readOp (fun _ _ => h.loadX _) e
  | ldyImm _ | ldyZp _ | ldyAbs _ | ldyZpx _ | ldyAbsx _ =>
    exact h.readOp (fun _ _ => h.loadY _) e
  | staIzx _ | staZp _ | staAbs _ | staIzy _ | staZpx _ | staAbsy _ | staAbsx _ | stxZp _ | stxAbs _ | stxZpy _
  | styZp _ | styAbs _ | styZpx _ =>
    exact h.storeOp e
  | tax | tsx =>
    exact h.impliedOp (fun _ => h.loadX _) e
  | tay =>
    exact h.impliedOp (fun _ => h.loadY _) e
  | txa | tya =>
    exact h.impliedOp (fun _ => h.loadA _) e
  | txs =>
    exact h.impliedOp (fun _ => h.setSp _ _) e
  | pha | php =>
    cases e
    exact h.trans (h.push _) (h.finish _ _)
  | pla =>
    cases e
    exact h.trans h.pull (h.trans (h.loadA _) (h.finish _ _))
  | plp =>
    cases e
    exact h.trans h.pull (h.trans (h.setFlags _ _) (h.finish _ _))
  | adcIzx _ | adcZp _ | adcImm _ | adcAbs _ | adcIzy _ | adcZpx _ | adcAbsy _ | adcAbsx _ | sbcIzx _ | sbcZp _
  | sbcImm _ | sbcAbs _ | sbcIzy _ | sbcZpx _ | sbcAbsy _ | sbcAbsx _ =>
    exact h.readOp (fun _ _ => h.applyAlu _) e
  | bitZp _ | bitAbs _ | cmpIzx _ | cmpZp _ | cmpImm _ | cmpAbs _ | cmpIzy _ | cmpZpx _ | cmpAbsy _ | cmpAbsx _
  | cpxImm _ | cpxZp _ | cpxAbs _ | cpyImm _ | cpyZp _ | cpyAbs _ =>
    exact h.readOp (fun _ _ => h.setFlags _ _) e
  | incZp _ | incAbs _ | incZpx _ | incAbsx _ | decZp _ | decAbs _ | decZpx _ | decAbsx _ | aslZp _ | aslAbs _
  | aslZpx _ | aslAbsx _ | lsrZp _ | lsrAbs _ | lsrZpx _ | lsrAbsx _ | rolZp _ | rolAbs _ | rolZpx _
  | rolAbsx _ | rorZp _ | rorAbs _ | rorZpx _ | rorAbsx _ =>
    exact h.modifyOp e
  | inx | dex =>
    exact h.impliedOp (fun _ => h.trans (h.setX _ _) (h.setFlags _ _)) e
  | iny | dey =>
    exact h.impliedOp (fun _ => h.trans (h.setY _ _) (h.setFlags _ _)) e
  | aslAcc | lsrAcc | rolAcc | rorAcc =>
    exact h.modifyAcc e
  | bcc _ | bcs _ | beq _ | bmi _ | bne _ | bpl _ | bvc _ | bvs _ =>
    simp only [Machine.exec, execBcc, execBcs, execBeq, execBmi, execBne, execBpl, execBvc, execBvs] at e
    exact h.branchOp e
  | jmpAbs _ =>
    cases e
    exact h.jump _ _
  | jmpInd _ =>
    cases e
    exact h.trans (h.readIndirect _) (h.jump _ _)
  | jsrAbs _ =>
    cases e
    exact h.trans (h.pushWord _) (h.jump _ _)
  | rts =>
    cases e
    exact h.trans h.pullWord (h.jump _ _)
  | rti =>
    cases e
    exact h.trans h.leave (h.addCycles _ _)
  | brk =>
    cases e
    exact h.trans (h.enter _ _ _) (h.addCycles _ _)
  | nop =>
    exact h.impliedOp (fun _ => h.refl _) e
  | clc | sec | cli | sei | cld | sed | clv =>
    exact h.impliedOp (fun _ => h.setFlags _ _) e

theorem fetch_illegal (h : KeptByOps P) {op : Byte} (e : s.fetch = .illegal op t) : P s t := by
  simp only [State.fetch] at e
  split at e <;> cases e
  exact h.afterRead _ _

theorem fetch_instr (h : KeptByOps P) {i : Instr} (e : s.fetch = .instr i t) : P s t := by
  simp only [State.fetch] at e
  split at e <;> cases e
  · exact h.afterRead _ _
  · exact h.trans (h.afterRead _ _) (h.afterRead _ _)
  · exact h.trans (h.afterRead _ _) (h.read16 _)

end KeptByOps

namespace KeptByStep

theorem interruptEntry (h : KeptByStep P) (e : s.interruptEntry = some t) : P s t := by
  unfold State.interruptEntry at e
  split_ifs at e <;> cases e
  · exact h.trans (h.enter _ _ _) (h.trans (h.setNmi _) (h.addCycles _ _))
  · exact h.trans (h.enter _ _ _) (h.addCycles _ _)

theorem runInstr (h : KeptByStep P) {i : Instr} (e : Machine.runInstr i s = .next t) : P s t := by
  unfold Machine.runInstr at e
  split at e <;> cases e
  rename_i u hu
  exact h.trans (h.exec hu) (h.advanceChips _ _)

theorem stepRunning (h : KeptByStep P) (e : Machine.stepRunning s = .next t) : P s t := by
  unfold Machine.stepRunning at e
  split at e
  · rename_i u hu
    cases e
    exact h.trans (h.interruptEntry hu) (h.advanceChips _ _)
  · split at e
    · rename_i u hu
      cases e
      exact h.trans (h.fetch_illegal hu) (h.halt _ _)
    · rename_i u hu
      exact h.trans (h.fetch_instr hu) (h.runInstr e)

/-- Every step keeps what its operations keep. -/
theorem step (h : KeptByStep P) (e : Machine.step s = .next t) : P s t := by
  unfold Machine.step at e
  split at e
  · cases e
    exact h.refl _
  · exact h.trans (h.beginStep _) (h.stepRunning e)

end KeptByStep

/-- A branch answers a next state, taken or not (42_control_system.md R190). -/
theorem branchOp_next (cond : State → Bool) (off : Byte) : ∃ t, branchOp cond off s = .next t := by
  unfold branchOp
  split_ifs <;> exact ⟨_, rfl⟩

end Sys2Proof.Machine
end

