-- ==== Sys2Proof/Laws/PerInstr.lean ====
section
/-! SUPPORT. One lemma per constructor of Instr: how far the pc moves past it is how many bytes encode it, but for BRK,
whose padding byte counts and is no part of its encoding (30_encoding.md R90, 42_control_system.md R203). -/

namespace Sys2Proof.Laws.Length

/-- The instruction's length is its encoding's, with `BRK`'s padding byte beside it, and at most three bytes. -/
def Statement (i : Instr) : Prop :=
  i.length = (encode i).length + (if i.mnemonic = .brk then 1 else 0) ∧ i.length ≤ 3

theorem ldaIzx (b : Byte) : Statement (.ldaIzx b) := ⟨rfl, Nat.le_of_ble_eq_true rfl⟩
theorem ldaZp (b : Byte) : Statement (.ldaZp b) := ⟨rfl, Nat.le_of_ble_eq_true rfl⟩
theorem ldaImm (b : Byte) : Statement (.ldaImm b) := ⟨rfl, Nat.le_of_ble_eq_true rfl⟩
theorem ldaAbs (w : Word) : Statement (.ldaAbs w) := ⟨rfl, Nat.le_of_ble_eq_true rfl⟩
theorem ldaIzy (b : Byte) : Statement (.ldaIzy b) := ⟨rfl, Nat.le_of_ble_eq_true rfl⟩
theorem ldaZpx (b : Byte) : Statement (.ldaZpx b) := ⟨rfl, Nat.le_of_ble_eq_true rfl⟩
theorem ldaAbsy (w : Word) : Statement (.ldaAbsy w) := ⟨rfl, Nat.le_of_ble_eq_true rfl⟩
theorem ldaAbsx (w : Word) : Statement (.ldaAbsx w) := ⟨rfl, Nat.le_of_ble_eq_true rfl⟩
theorem ldxImm (b : Byte) : Statement (.ldxImm b) := ⟨rfl, Nat.le_of_ble_eq_true rfl⟩
theorem ldxZp (b : Byte) : Statement (.ldxZp b) := ⟨rfl, Nat.le_of_ble_eq_true rfl⟩
theorem ldxAbs (w : Word) : Statement (.ldxAbs w) := ⟨rfl, Nat.le_of_ble_eq_true rfl⟩
theorem ldxZpy (b : Byte) : Statement (.ldxZpy b) := ⟨rfl, Nat.le_of_ble_eq_true rfl⟩
theorem ldxAbsy (w : Word) : Statement (.ldxAbsy w) := ⟨rfl, Nat.le_of_ble_eq_true rfl⟩
theorem ldyImm (b : Byte) : Statement (.ldyImm b) := ⟨rfl, Nat.le_of_ble_eq_true rfl⟩
theorem ldyZp (b : Byte) : Statement (.ldyZp b) := ⟨rfl, Nat.le_of_ble_eq_true rfl⟩
theorem ldyAbs (w : Word) : Statement (.ldyAbs w) := ⟨rfl, Nat.le_of_ble_eq_true rfl⟩
theorem ldyZpx (b : Byte) : Statement (.ldyZpx b) := ⟨rfl, Nat.le_of_ble_eq_true rfl⟩
theorem ldyAbsx (w : Word) : Statement (.ldyAbsx w) := ⟨rfl, Nat.le_of_ble_eq_true rfl⟩
theorem staIzx (b : Byte) : Statement (.staIzx b) := ⟨rfl, Nat.le_of_ble_eq_true rfl⟩
theorem staZp (b : Byte) : Statement (.staZp b) := ⟨rfl, Nat.le_of_ble_eq_true rfl⟩
theorem staAbs (w : Word) : Statement (.staAbs w) := ⟨rfl, Nat.le_of_ble_eq_true rfl⟩
theorem staIzy (b : Byte) : Statement (.staIzy b) := ⟨rfl, Nat.le_of_ble_eq_true rfl⟩
theorem staZpx (b : Byte) : Statement (.staZpx b) := ⟨rfl, Nat.le_of_ble_eq_true rfl⟩
theorem staAbsy (w : Word) : Statement (.staAbsy w) := ⟨rfl, Nat.le_of_ble_eq_true rfl⟩
theorem staAbsx (w : Word) : Statement (.staAbsx w) := ⟨rfl, Nat.le_of_ble_eq_true rfl⟩
theorem stxZp (b : Byte) : Statement (.stxZp b) := ⟨rfl, Nat.le_of_ble_eq_true rfl⟩
theorem stxAbs (w : Word) : Statement (.stxAbs w) := ⟨rfl, Nat.le_of_ble_eq_true rfl⟩
theorem stxZpy (b : Byte) : Statement (.stxZpy b) := ⟨rfl, Nat.le_of_ble_eq_true rfl⟩
theorem styZp (b : Byte) : Statement (.styZp b) := ⟨rfl, Nat.le_of_ble_eq_true rfl⟩
theorem styAbs (w : Word) : Statement (.styAbs w) := ⟨rfl, Nat.le_of_ble_eq_true rfl⟩
theorem styZpx (b : Byte) : Statement (.styZpx b) := ⟨rfl, Nat.le_of_ble_eq_true rfl⟩
theorem tax : Statement .tax := ⟨rfl, Nat.le_of_ble_eq_true rfl⟩
theorem tay : Statement .tay := ⟨rfl, Nat.le_of_ble_eq_true rfl⟩
theorem txa : Statement .txa := ⟨rfl, Nat.le_of_ble_eq_true rfl⟩
theorem tya : Statement .tya := ⟨rfl, Nat.le_of_ble_eq_true rfl⟩
theorem tsx : Statement .tsx := ⟨rfl, Nat.le_of_ble_eq_true rfl⟩
theorem txs : Statement .txs := ⟨rfl, Nat.le_of_ble_eq_true rfl⟩
theorem pha : Statement .pha := ⟨rfl, Nat.le_of_ble_eq_true rfl⟩
theorem php : Statement .php := ⟨rfl, Nat.le_of_ble_eq_true rfl⟩
theorem pla : Statement .pla := ⟨rfl, Nat.le_of_ble_eq_true rfl⟩
theorem plp : Statement .plp := ⟨rfl, Nat.le_of_ble_eq_true rfl⟩
theorem adcIzx (b : Byte) : Statement (.adcIzx b) := ⟨rfl, Nat.le_of_ble_eq_true rfl⟩
theorem adcZp (b : Byte) : Statement (.adcZp b) := ⟨rfl, Nat.le_of_ble_eq_true rfl⟩
theorem adcImm (b : Byte) : Statement (.adcImm b) := ⟨rfl, Nat.le_of_ble_eq_true rfl⟩
theorem adcAbs (w : Word) : Statement (.adcAbs w) := ⟨rfl, Nat.le_of_ble_eq_true rfl⟩
theorem adcIzy (b : Byte) : Statement (.adcIzy b) := ⟨rfl, Nat.le_of_ble_eq_true rfl⟩
theorem adcZpx (b : Byte) : Statement (.adcZpx b) := ⟨rfl, Nat.le_of_ble_eq_true rfl⟩
theorem adcAbsy (w : Word) : Statement (.adcAbsy w) := ⟨rfl, Nat.le_of_ble_eq_true rfl⟩
theorem adcAbsx (w : Word) : Statement (.adcAbsx w) := ⟨rfl, Nat.le_of_ble_eq_true rfl⟩
theorem sbcIzx (b : Byte) : Statement (.sbcIzx b) := ⟨rfl, Nat.le_of_ble_eq_true rfl⟩
theorem sbcZp (b : Byte) : Statement (.sbcZp b) := ⟨rfl, Nat.le_of_ble_eq_true rfl⟩
theorem sbcImm (b : Byte) : Statement (.sbcImm b) := ⟨rfl, Nat.le_of_ble_eq_true rfl⟩
theorem sbcAbs (w : Word) : Statement (.sbcAbs w) := ⟨rfl, Nat.le_of_ble_eq_true rfl⟩
theorem sbcIzy (b : Byte) : Statement (.sbcIzy b) := ⟨rfl, Nat.le_of_ble_eq_true rfl⟩
theorem sbcZpx (b : Byte) : Statement (.sbcZpx b) := ⟨rfl, Nat.le_of_ble_eq_true rfl⟩
theorem sbcAbsy (w : Word) : Statement (.sbcAbsy w) := ⟨rfl, Nat.le_of_ble_eq_true rfl⟩
theorem sbcAbsx (w : Word) : Statement (.sbcAbsx w) := ⟨rfl, Nat.le_of_ble_eq_true rfl⟩
theorem andIzx (b : Byte) : Statement (.andIzx b) := ⟨rfl, Nat.le_of_ble_eq_true rfl⟩
theorem andZp (b : Byte) : Statement (.andZp b) := ⟨rfl, Nat.le_of_ble_eq_true rfl⟩
theorem andImm (b : Byte) : Statement (.andImm b) := ⟨rfl, Nat.le_of_ble_eq_true rfl⟩
theorem andAbs (w : Word) : Statement (.andAbs w) := ⟨rfl, Nat.le_of_ble_eq_true rfl⟩
theorem andIzy (b : Byte) : Statement (.andIzy b) := ⟨rfl, Nat.le_of_ble_eq_true rfl⟩
theorem andZpx (b : Byte) : Statement (.andZpx b) := ⟨rfl, Nat.le_of_ble_eq_true rfl⟩
theorem andAbsy (w : Word) : Statement (.andAbsy w) := ⟨rfl, Nat.le_of_ble_eq_true rfl⟩
theorem andAbsx (w : Word) : Statement (.andAbsx w) := ⟨rfl, Nat.le_of_ble_eq_true rfl⟩
theorem oraIzx (b : Byte) : Statement (.oraIzx b) := ⟨rfl, Nat.le_of_ble_eq_true rfl⟩
theorem oraZp (b : Byte) : Statement (.oraZp b) := ⟨rfl, Nat.le_of_ble_eq_true rfl⟩
theorem oraImm (b : Byte) : Statement (.oraImm b) := ⟨rfl, Nat.le_of_ble_eq_true rfl⟩
theorem oraAbs (w : Word) : Statement (.oraAbs w) := ⟨rfl, Nat.le_of_ble_eq_true rfl⟩
theorem oraIzy (b : Byte) : Statement (.oraIzy b) := ⟨rfl, Nat.le_of_ble_eq_true rfl⟩
theorem oraZpx (b : Byte) : Statement (.oraZpx b) := ⟨rfl, Nat.le_of_ble_eq_true rfl⟩
theorem oraAbsy (w : Word) : Statement (.oraAbsy w) := ⟨rfl, Nat.le_of_ble_eq_true rfl⟩
theorem oraAbsx (w : Word) : Statement (.oraAbsx w) := ⟨rfl, Nat.le_of_ble_eq_true rfl⟩
theorem eorIzx (b : Byte) : Statement (.eorIzx b) := ⟨rfl, Nat.le_of_ble_eq_true rfl⟩
theorem eorZp (b : Byte) : Statement (.eorZp b) := ⟨rfl, Nat.le_of_ble_eq_true rfl⟩
theorem eorImm (b : Byte) : Statement (.eorImm b) := ⟨rfl, Nat.le_of_ble_eq_true rfl⟩
theorem eorAbs (w : Word) : Statement (.eorAbs w) := ⟨rfl, Nat.le_of_ble_eq_true rfl⟩
theorem eorIzy (b : Byte) : Statement (.eorIzy b) := ⟨rfl, Nat.le_of_ble_eq_true rfl⟩
theorem eorZpx (b : Byte) : Statement (.eorZpx b) := ⟨rfl, Nat.le_of_ble_eq_true rfl⟩
theorem eorAbsy (w : Word) : Statement (.eorAbsy w) := ⟨rfl, Nat.le_of_ble_eq_true rfl⟩
theorem eorAbsx (w : Word) : Statement (.eorAbsx w) := ⟨rfl, Nat.le_of_ble_eq_true rfl⟩
theorem bitZp (b : Byte) : Statement (.bitZp b) := ⟨rfl, Nat.le_of_ble_eq_true rfl⟩
theorem bitAbs (w : Word) : Statement (.bitAbs w) := ⟨rfl, Nat.le_of_ble_eq_true rfl⟩
theorem cmpIzx (b : Byte) : Statement (.cmpIzx b) := ⟨rfl, Nat.le_of_ble_eq_true rfl⟩
theorem cmpZp (b : Byte) : Statement (.cmpZp b) := ⟨rfl, Nat.le_of_ble_eq_true rfl⟩
theorem cmpImm (b : Byte) : Statement (.cmpImm b) := ⟨rfl, Nat.le_of_ble_eq_true rfl⟩
theorem cmpAbs (w : Word) : Statement (.cmpAbs w) := ⟨rfl, Nat.le_of_ble_eq_true rfl⟩
theorem cmpIzy (b : Byte) : Statement (.cmpIzy b) := ⟨rfl, Nat.le_of_ble_eq_true rfl⟩
theorem cmpZpx (b : Byte) : Statement (.cmpZpx b) := ⟨rfl, Nat.le_of_ble_eq_true rfl⟩
theorem cmpAbsy (w : Word) : Statement (.cmpAbsy w) := ⟨rfl, Nat.le_of_ble_eq_true rfl⟩
theorem cmpAbsx (w : Word) : Statement (.cmpAbsx w) := ⟨rfl, Nat.le_of_ble_eq_true rfl⟩
theorem cpxImm (b : Byte) : Statement (.cpxImm b) := ⟨rfl, Nat.le_of_ble_eq_true rfl⟩
theorem cpxZp (b : Byte) : Statement (.cpxZp b) := ⟨rfl, Nat.le_of_ble_eq_true rfl⟩
theorem cpxAbs (w : Word) : Statement (.cpxAbs w) := ⟨rfl, Nat.le_of_ble_eq_true rfl⟩
theorem cpyImm (b : Byte) : Statement (.cpyImm b) := ⟨rfl, Nat.le_of_ble_eq_true rfl⟩
theorem cpyZp (b : Byte) : Statement (.cpyZp b) := ⟨rfl, Nat.le_of_ble_eq_true rfl⟩
theorem cpyAbs (w : Word) : Statement (.cpyAbs w) := ⟨rfl, Nat.le_of_ble_eq_true rfl⟩
theorem incZp (b : Byte) : Statement (.incZp b) := ⟨rfl, Nat.le_of_ble_eq_true rfl⟩
theorem incAbs (w : Word) : Statement (.incAbs w) := ⟨rfl, Nat.le_of_ble_eq_true rfl⟩
theorem incZpx (b : Byte) : Statement (.incZpx b) := ⟨rfl, Nat.le_of_ble_eq_true rfl⟩
theorem incAbsx (w : Word) : Statement (.incAbsx w) := ⟨rfl, Nat.le_of_ble_eq_true rfl⟩
theorem decZp (b : Byte) : Statement (.decZp b) := ⟨rfl, Nat.le_of_ble_eq_true rfl⟩
theorem decAbs (w : Word) : Statement (.decAbs w) := ⟨rfl, Nat.le_of_ble_eq_true rfl⟩
theorem decZpx (b : Byte) : Statement (.decZpx b) := ⟨rfl, Nat.le_of_ble_eq_true rfl⟩
theorem decAbsx (w : Word) : Statement (.decAbsx w) := ⟨rfl, Nat.le_of_ble_eq_true rfl⟩
theorem inx : Statement .inx := ⟨rfl, Nat.le_of_ble_eq_true rfl⟩
theorem iny : Statement .iny := ⟨rfl, Nat.le_of_ble_eq_true rfl⟩
theorem dex : Statement .dex := ⟨rfl, Nat.le_of_ble_eq_true rfl⟩
theorem dey : Statement .dey := ⟨rfl, Nat.le_of_ble_eq_true rfl⟩
theorem aslZp (b : Byte) : Statement (.aslZp b) := ⟨rfl, Nat.le_of_ble_eq_true rfl⟩
theorem aslAcc : Statement .aslAcc := ⟨rfl, Nat.le_of_ble_eq_true rfl⟩
theorem aslAbs (w : Word) : Statement (.aslAbs w) := ⟨rfl, Nat.le_of_ble_eq_true rfl⟩
theorem aslZpx (b : Byte) : Statement (.aslZpx b) := ⟨rfl, Nat.le_of_ble_eq_true rfl⟩
theorem aslAbsx (w : Word) : Statement (.aslAbsx w) := ⟨rfl, Nat.le_of_ble_eq_true rfl⟩
theorem lsrZp (b : Byte) : Statement (.lsrZp b) := ⟨rfl, Nat.le_of_ble_eq_true rfl⟩
theorem lsrAcc : Statement .lsrAcc := ⟨rfl, Nat.le_of_ble_eq_true rfl⟩
theorem lsrAbs (w : Word) : Statement (.lsrAbs w) := ⟨rfl, Nat.le_of_ble_eq_true rfl⟩
theorem lsrZpx (b : Byte) : Statement (.lsrZpx b) := ⟨rfl, Nat.le_of_ble_eq_true rfl⟩
theorem lsrAbsx (w : Word) : Statement (.lsrAbsx w) := ⟨rfl, Nat.le_of_ble_eq_true rfl⟩
theorem rolZp (b : Byte) : Statement (.rolZp b) := ⟨rfl, Nat.le_of_ble_eq_true rfl⟩
theorem rolAcc : Statement .rolAcc := ⟨rfl, Nat.le_of_ble_eq_true rfl⟩
theorem rolAbs (w : Word) : Statement (.rolAbs w) := ⟨rfl, Nat.le_of_ble_eq_true rfl⟩
theorem rolZpx (b : Byte) : Statement (.rolZpx b) := ⟨rfl, Nat.le_of_ble_eq_true rfl⟩
theorem rolAbsx (w : Word) : Statement (.rolAbsx w) := ⟨rfl, Nat.le_of_ble_eq_true rfl⟩
theorem rorZp (b : Byte) : Statement (.rorZp b) := ⟨rfl, Nat.le_of_ble_eq_true rfl⟩
theorem rorAcc : Statement .rorAcc := ⟨rfl, Nat.le_of_ble_eq_true rfl⟩
theorem rorAbs (w : Word) : Statement (.rorAbs w) := ⟨rfl, Nat.le_of_ble_eq_true rfl⟩
theorem rorZpx (b : Byte) : Statement (.rorZpx b) := ⟨rfl, Nat.le_of_ble_eq_true rfl⟩
theorem rorAbsx (w : Word) : Statement (.rorAbsx w) := ⟨rfl, Nat.le_of_ble_eq_true rfl⟩
theorem bcc (b : Byte) : Statement (.bcc b) := ⟨rfl, Nat.le_of_ble_eq_true rfl⟩
theorem bcs (b : Byte) : Statement (.bcs b) := ⟨rfl, Nat.le_of_ble_eq_true rfl⟩
theorem beq (b : Byte) : Statement (.beq b) := ⟨rfl, Nat.le_of_ble_eq_true rfl⟩
theorem bmi (b : Byte) : Statement (.bmi b) := ⟨rfl, Nat.le_of_ble_eq_true rfl⟩
theorem bne (b : Byte) : Statement (.bne b) := ⟨rfl, Nat.le_of_ble_eq_true rfl⟩
theorem bpl (b : Byte) : Statement (.bpl b) := ⟨rfl, Nat.le_of_ble_eq_true rfl⟩
theorem bvc (b : Byte) : Statement (.bvc b) := ⟨rfl, Nat.le_of_ble_eq_true rfl⟩
theorem bvs (b : Byte) : Statement (.bvs b) := ⟨rfl, Nat.le_of_ble_eq_true rfl⟩
theorem jmpAbs (w : Word) : Statement (.jmpAbs w) := ⟨rfl, Nat.le_of_ble_eq_true rfl⟩
theorem jmpInd (w : Word) : Statement (.jmpInd w) := ⟨rfl, Nat.le_of_ble_eq_true rfl⟩
theorem jsrAbs (w : Word) : Statement (.jsrAbs w) := ⟨rfl, Nat.le_of_ble_eq_true rfl⟩
theorem rts : Statement .rts := ⟨rfl, Nat.le_of_ble_eq_true rfl⟩
theorem rti : Statement .rti := ⟨rfl, Nat.le_of_ble_eq_true rfl⟩
theorem brk : Statement .brk := ⟨rfl, Nat.le_of_ble_eq_true rfl⟩
theorem nop : Statement .nop := ⟨rfl, Nat.le_of_ble_eq_true rfl⟩
theorem clc : Statement .clc := ⟨rfl, Nat.le_of_ble_eq_true rfl⟩
theorem sec : Statement .sec := ⟨rfl, Nat.le_of_ble_eq_true rfl⟩
theorem cli : Statement .cli := ⟨rfl, Nat.le_of_ble_eq_true rfl⟩
theorem sei : Statement .sei := ⟨rfl, Nat.le_of_ble_eq_true rfl⟩
theorem cld : Statement .cld := ⟨rfl, Nat.le_of_ble_eq_true rfl⟩
theorem sed : Statement .sed := ⟨rfl, Nat.le_of_ble_eq_true rfl⟩
theorem clv : Statement .clv := ⟨rfl, Nat.le_of_ble_eq_true rfl⟩

end Sys2Proof.Laws.Length
end

