-- ==== Sys2Proof/Tests/Slice0.lean ====
section
/-! SUPPORT. The model's own tests: the checks of WellFormed.lean on ill-formed bytes, every opcode's decoding from the
spec's encoding tables, one-step tests from 95_test_vectors.md, and for each statement with hypotheses witnesses that
meet them, a boundary value for each clause. -/

namespace Sys2Proof.Tests

open Sys2Proof.Machine

/-! ### Ill-formed bytes (30_encoding.md R90, R107) -/

theorem test_wf_no_bytes : wfBytes [] = false := by decide
theorem test_wf_illegal_opcode : wfBytes [0x02#8] = false := by decide
theorem test_wf_missing_operand : wfBytes [0xA9#8] = false ∧ wfBytes [0xAD#8, 0x34#8] = false := by decide
theorem test_wf_trailing_byte : wfBytes [0xEA#8, 0x34#8] = false ∧ wfBytes [0x00#8, 0xEA#8] = false := by decide
theorem test_wf_accepts : wfBytes [0xA9#8, 0x34#8] = true ∧ wfBytes [0x00#8] = true := by decide

theorem test_decode_no_bytes : decode [] = .error .noBytes := rfl
theorem test_decode_illegal : decode [0xFF#8, 0x34#8] = .error (.illegalOpcode 0xFF#8) := rfl
theorem test_decode_truncated : decode [0x6C#8, 0x34#8] = .error (.truncated 0x6C#8) := rfl
theorem test_decode_leaves_rest : decode [0xE8#8, 0x02#8] = .ok (.inx, [0x02#8]) := rfl

/-- An opcode-table word: bit 0 is the low bit of the opcode byte, and the bits above the row's are zero. -/
theorem test_decodeTableWord : decodeTableWord 8 0xAD = some (.ldaAbs 0x0000#16) ∧
    decodeTableWord 24 0x1234AD = some (.ldaAbs 0x1234#16) ∧ decodeTableWord 8 0x02 = none := by decide

/-! ### Decoding, every opcode from its rule's encoding table, with operand byte $34 or operand word $1234 -/

/-- The decoder reads exactly this instruction from these bytes, and the encoder writes them. -/
def reads (bytes : List Byte) (i : Instr) : Bool :=
  match decode bytes with
  | .ok (j, rest) => decide (j = i) && rest.isEmpty && decide (encode i = bytes)
  | .error _ => false

/-- The encodings of R121 to R126: loads and stores. -/
theorem test_decode_loads_stores :
    (reads [0xA9#8, 0x34#8] (.ldaImm 0x34#8) && reads [0xA5#8, 0x34#8] (.ldaZp 0x34#8) &&
      reads [0xB5#8, 0x34#8] (.ldaZpx 0x34#8) && reads [0xAD#8, 0x34#8, 0x12#8] (.ldaAbs 0x1234#16) &&
      reads [0xBD#8, 0x34#8, 0x12#8] (.ldaAbsx 0x1234#16) &&
      reads [0xB9#8, 0x34#8, 0x12#8] (.ldaAbsy 0x1234#16) && reads [0xA1#8, 0x34#8] (.ldaIzx 0x34#8) &&
      reads [0xB1#8, 0x34#8] (.ldaIzy 0x34#8) && reads [0xA2#8, 0x34#8] (.ldxImm 0x34#8) &&
      reads [0xA6#8, 0x34#8] (.ldxZp 0x34#8) && reads [0xB6#8, 0x34#8] (.ldxZpy 0x34#8) &&
      reads [0xAE#8, 0x34#8, 0x12#8] (.ldxAbs 0x1234#16) &&
      reads [0xBE#8, 0x34#8, 0x12#8] (.ldxAbsy 0x1234#16) && reads [0xA0#8, 0x34#8] (.ldyImm 0x34#8) &&
      reads [0xA4#8, 0x34#8] (.ldyZp 0x34#8) && reads [0xB4#8, 0x34#8] (.ldyZpx 0x34#8) &&
      reads [0xAC#8, 0x34#8, 0x12#8] (.ldyAbs 0x1234#16) &&
      reads [0xBC#8, 0x34#8, 0x12#8] (.ldyAbsx 0x1234#16) && reads [0x85#8, 0x34#8] (.staZp 0x34#8) &&
      reads [0x95#8, 0x34#8] (.staZpx 0x34#8) && reads [0x8D#8, 0x34#8, 0x12#8] (.staAbs 0x1234#16) &&
      reads [0x9D#8, 0x34#8, 0x12#8] (.staAbsx 0x1234#16) &&
      reads [0x99#8, 0x34#8, 0x12#8] (.staAbsy 0x1234#16) && reads [0x81#8, 0x34#8] (.staIzx 0x34#8) &&
      reads [0x91#8, 0x34#8] (.staIzy 0x34#8) && reads [0x86#8, 0x34#8] (.stxZp 0x34#8) &&
      reads [0x96#8, 0x34#8] (.stxZpy 0x34#8) && reads [0x8E#8, 0x34#8, 0x12#8] (.stxAbs 0x1234#16) &&
      reads [0x84#8, 0x34#8] (.styZp 0x34#8) && reads [0x94#8, 0x34#8] (.styZpx 0x34#8) &&
      reads [0x8C#8, 0x34#8, 0x12#8] (.styAbs 0x1234#16)) = true := by decide

/-- The encodings of R127 to R136: transfers and stack instructions. -/
theorem test_decode_transfers_stack :
    (reads [0xAA#8] .tax && reads [0xA8#8] .tay && reads [0x8A#8] .txa && reads [0x98#8] .tya &&
      reads [0xBA#8] .tsx && reads [0x9A#8] .txs && reads [0x48#8] .pha && reads [0x08#8] .php &&
      reads [0x68#8] .pla && reads [0x28#8] .plp) = true := by decide

/-- The encodings of R151 to R152: ADC and SBC. -/
theorem test_decode_adc_sbc :
    (reads [0x69#8, 0x34#8] (.adcImm 0x34#8) && reads [0x65#8, 0x34#8] (.adcZp 0x34#8) &&
      reads [0x75#8, 0x34#8] (.adcZpx 0x34#8) && reads [0x6D#8, 0x34#8, 0x12#8] (.adcAbs 0x1234#16) &&
      reads [0x7D#8, 0x34#8, 0x12#8] (.adcAbsx 0x1234#16) &&
      reads [0x79#8, 0x34#8, 0x12#8] (.adcAbsy 0x1234#16) && reads [0x61#8, 0x34#8] (.adcIzx 0x34#8) &&
      reads [0x71#8, 0x34#8] (.adcIzy 0x34#8) && reads [0xE9#8, 0x34#8] (.sbcImm 0x34#8) &&
      reads [0xE5#8, 0x34#8] (.sbcZp 0x34#8) && reads [0xF5#8, 0x34#8] (.sbcZpx 0x34#8) &&
      reads [0xED#8, 0x34#8, 0x12#8] (.sbcAbs 0x1234#16) &&
      reads [0xFD#8, 0x34#8, 0x12#8] (.sbcAbsx 0x1234#16) &&
      reads [0xF9#8, 0x34#8, 0x12#8] (.sbcAbsy 0x1234#16) && reads [0xE1#8, 0x34#8] (.sbcIzx 0x34#8) &&
      reads [0xF1#8, 0x34#8] (.sbcIzy 0x34#8)) = true := by decide

/-- The encodings of R153 to R156: AND, ORA, EOR and BIT. -/
theorem test_decode_logic :
    (reads [0x29#8, 0x34#8] (.andImm 0x34#8) && reads [0x25#8, 0x34#8] (.andZp 0x34#8) &&
      reads [0x35#8, 0x34#8] (.andZpx 0x34#8) && reads [0x2D#8, 0x34#8, 0x12#8] (.andAbs 0x1234#16) &&
      reads [0x3D#8, 0x34#8, 0x12#8] (.andAbsx 0x1234#16) &&
      reads [0x39#8, 0x34#8, 0x12#8] (.andAbsy 0x1234#16) && reads [0x21#8, 0x34#8] (.andIzx 0x34#8) &&
      reads [0x31#8, 0x34#8] (.andIzy 0x34#8) && reads [0x09#8, 0x34#8] (.oraImm 0x34#8) &&
      reads [0x05#8, 0x34#8] (.oraZp 0x34#8) && reads [0x15#8, 0x34#8] (.oraZpx 0x34#8) &&
      reads [0x0D#8, 0x34#8, 0x12#8] (.oraAbs 0x1234#16) &&
      reads [0x1D#8, 0x34#8, 0x12#8] (.oraAbsx 0x1234#16) &&
      reads [0x19#8, 0x34#8, 0x12#8] (.oraAbsy 0x1234#16) && reads [0x01#8, 0x34#8] (.oraIzx 0x34#8) &&
      reads [0x11#8, 0x34#8] (.oraIzy 0x34#8) && reads [0x49#8, 0x34#8] (.eorImm 0x34#8) &&
      reads [0x45#8, 0x34#8] (.eorZp 0x34#8) && reads [0x55#8, 0x34#8] (.eorZpx 0x34#8) &&
      reads [0x4D#8, 0x34#8, 0x12#8] (.eorAbs 0x1234#16) &&
      reads [0x5D#8, 0x34#8, 0x12#8] (.eorAbsx 0x1234#16) &&
      reads [0x59#8, 0x34#8, 0x12#8] (.eorAbsy 0x1234#16) && reads [0x41#8, 0x34#8] (.eorIzx 0x34#8) &&
      reads [0x51#8, 0x34#8] (.eorIzy 0x34#8) && reads [0x24#8, 0x34#8] (.bitZp 0x34#8) &&
      reads [0x2C#8, 0x34#8, 0x12#8] (.bitAbs 0x1234#16)) = true := by decide

/-- The encodings of R157 to R159: comparisons. -/
theorem test_decode_compare :
    (reads [0xC9#8, 0x34#8] (.cmpImm 0x34#8) && reads [0xC5#8, 0x34#8] (.cmpZp 0x34#8) &&
      reads [0xD5#8, 0x34#8] (.cmpZpx 0x34#8) && reads [0xCD#8, 0x34#8, 0x12#8] (.cmpAbs 0x1234#16) &&
      reads [0xDD#8, 0x34#8, 0x12#8] (.cmpAbsx 0x1234#16) &&
      reads [0xD9#8, 0x34#8, 0x12#8] (.cmpAbsy 0x1234#16) && reads [0xC1#8, 0x34#8] (.cmpIzx 0x34#8) &&
      reads [0xD1#8, 0x34#8] (.cmpIzy 0x34#8) && reads [0xE0#8, 0x34#8] (.cpxImm 0x34#8) &&
      reads [0xE4#8, 0x34#8] (.cpxZp 0x34#8) && reads [0xEC#8, 0x34#8, 0x12#8] (.cpxAbs 0x1234#16) &&
      reads [0xC0#8, 0x34#8] (.cpyImm 0x34#8) && reads [0xC4#8, 0x34#8] (.cpyZp 0x34#8) &&
      reads [0xCC#8, 0x34#8, 0x12#8] (.cpyAbs 0x1234#16)) = true := by decide

/-- The encodings of R160 to R165: INC, DEC and the register steps. -/
theorem test_decode_inc_dec :
    (reads [0xE6#8, 0x34#8] (.incZp 0x34#8) && reads [0xF6#8, 0x34#8] (.incZpx 0x34#8) &&
      reads [0xEE#8, 0x34#8, 0x12#8] (.incAbs 0x1234#16) &&
      reads [0xFE#8, 0x34#8, 0x12#8] (.incAbsx 0x1234#16) && reads [0xC6#8, 0x34#8] (.decZp 0x34#8) &&
      reads [0xD6#8, 0x34#8] (.decZpx 0x34#8) && reads [0xCE#8, 0x34#8, 0x12#8] (.decAbs 0x1234#16) &&
      reads [0xDE#8, 0x34#8, 0x12#8] (.decAbsx 0x1234#16) && reads [0xE8#8] .inx && reads [0xC8#8] .iny &&
      reads [0xCA#8] .dex && reads [0x88#8] .dey) = true := by decide

/-- The encodings of R166 to R169: shifts and rotates. -/
theorem test_decode_shifts :
    (reads [0x0A#8] .aslAcc && reads [0x06#8, 0x34#8] (.aslZp 0x34#8) &&
      reads [0x16#8, 0x34#8] (.aslZpx 0x34#8) && reads [0x0E#8, 0x34#8, 0x12#8] (.aslAbs 0x1234#16) &&
      reads [0x1E#8, 0x34#8, 0x12#8] (.aslAbsx 0x1234#16) && reads [0x4A#8] .lsrAcc &&
      reads [0x46#8, 0x34#8] (.lsrZp 0x34#8) && reads [0x56#8, 0x34#8] (.lsrZpx 0x34#8) &&
      reads [0x4E#8, 0x34#8, 0x12#8] (.lsrAbs 0x1234#16) &&
      reads [0x5E#8, 0x34#8, 0x12#8] (.lsrAbsx 0x1234#16) && reads [0x2A#8] .rolAcc &&
      reads [0x26#8, 0x34#8] (.rolZp 0x34#8) && reads [0x36#8, 0x34#8] (.rolZpx 0x34#8) &&
      reads [0x2E#8, 0x34#8, 0x12#8] (.rolAbs 0x1234#16) &&
      reads [0x3E#8, 0x34#8, 0x12#8] (.rolAbsx 0x1234#16) && reads [0x6A#8] .rorAcc &&
      reads [0x66#8, 0x34#8] (.rorZp 0x34#8) && reads [0x76#8, 0x34#8] (.rorZpx 0x34#8) &&
      reads [0x6E#8, 0x34#8, 0x12#8] (.rorAbs 0x1234#16) &&
      reads [0x7E#8, 0x34#8, 0x12#8] (.rorAbsx 0x1234#16)) = true := by decide

/-- The encodings of R190 to R198: branches. -/
theorem test_decode_branches :
    (reads [0x90#8, 0x34#8] (.bcc 0x34#8) && reads [0xB0#8, 0x34#8] (.bcs 0x34#8) &&
      reads [0xF0#8, 0x34#8] (.beq 0x34#8) && reads [0x30#8, 0x34#8] (.bmi 0x34#8) &&
      reads [0xD0#8, 0x34#8] (.bne 0x34#8) && reads [0x10#8, 0x34#8] (.bpl 0x34#8) &&
      reads [0x50#8, 0x34#8] (.bvc 0x34#8) && reads [0x70#8, 0x34#8] (.bvs 0x34#8)) = true := by decide

/-- The encodings of R199 to R204: jumps, subroutines, interrupts and NOP. -/
theorem test_decode_control :
    (reads [0x4C#8, 0x34#8, 0x12#8] (.jmpAbs 0x1234#16) && reads [0x6C#8, 0x34#8, 0x12#8] (.jmpInd 0x1234#16) &&
      reads [0x20#8, 0x34#8, 0x12#8] (.jsrAbs 0x1234#16) && reads [0x60#8] .rts && reads [0x40#8] .rti &&
      reads [0x00#8] .brk && reads [0xEA#8] .nop) = true := by decide

/-- The encodings of R205 to R211: flag instructions. -/
theorem test_decode_flags :
    (reads [0x18#8] .clc && reads [0x38#8] .sec && reads [0x58#8] .cli && reads [0x78#8] .sei &&
      reads [0xD8#8] .cld && reads [0xF8#8] .sed && reads [0xB8#8] .clv) = true := by decide

/-- Assembler text (R114): `LDA ($1F),Y`, `BNE` to itself at $0200, `ROR A`. -/
theorem test_assembly : asmChars 0x0200#16 (.ldaIzy 0x1F#8) = "LDA ($1F),Y".toList ∧
    asmChars 0x0200#16 (.bne 0xFE#8) = "BNE $0200".toList ∧ asmChars 0x0200#16 .rorAcc = "ROR A".toList := by decide

/-! ### One step each, from 95_test_vectors.md section 2 -/

/-- The default start state of section 2. -/
def start : State := { State.reset with sp := 0xFD#8, pc := 0x0200#16, ram := [(1, 0x37#8)] }

/-- RAM bytes set one by one. -/
def poke (s : State) : List (Word × Byte) → State
  | [] => s
  | (a, v) :: rest => poke (s.setRamByte a v) rest

/-- The start of a vector: its RAM bytes and its code at an address, PC there. -/
def startAt (s : State) (cells : List (Word × Byte)) (pc : Word) (code : List Byte) : State :=
  poke { s with pc := pc } (cells ++ codeAt pc code)

/-- One step from there ends in a state that passes a check. -/
def stepOf (s : State) (cells : List (Word × Byte)) (pc : Word) (code : List Byte) (ok : State → Bool) : Bool :=
  match step (startAt s cells pc code) with
  | .next t => ok t
  | _ => false

/-- LS2 (R121): LDA #$80 ($A9 $80). -/
theorem test_LS2 :
    stepOf start []
      0x0200#16 [0xA9#8, 0x80#8] (fun t => t.a = 0x80#8 ∧ t.flags.n = true ∧
        t.flags.z = false) = true := by decide

/-- LS4 (R121, 30_encoding.md R99, R111): LDA $12FF,X ($BD $FF $12). -/
theorem test_LS4 :
    stepOf ({ start with x := 0x01#8 }) [(0x1300#16, 0x77#8)]
      0x0200#16 [0xBD#8, 0xFF#8, 0x12#8] (fun t => t.a = 0x77#8 ∧ t.cycles = 5) = true := by decide

/-- LS10 (R122): LDX $F0,Y ($B6 $F0). -/
theorem test_LS10 :
    stepOf ({ start with y := 0x11#8 }) []
      0x0200#16 [0xB6#8, 0xF0#8] (fun t => t.x = 0x37#8 ∧ t.cycles = 4) = true := by decide

/-- LS11 (R123): LDY $40 ($A4 $40). -/
theorem test_LS11 :
    stepOf start [(0x0040#16, 0x00#8)]
      0x0200#16 [0xA4#8, 0x40#8] (fun t => t.y = 0x00#8 ∧ t.flags.z = true ∧
        t.flags.n = false) = true := by decide

/-- LS13 (R124, 20_memory.md R57): STA $A000 ($8D $00 $A0). -/
theorem test_LS13 :
    stepOf ({ start with a := 0x42#8 }) [(0xA000#16, 0x11#8)]
      0x0200#16 [0x8D#8, 0x00#8, 0xA0#8] (fun t => t.ramByte 0xA000#16 = 0x11#8) = true := by decide

/-- LS15 (R124): STA ($10),Y ($91 $10). -/
theorem test_LS15 :
    stepOf ({ start with a := 0x01#8, y := 0xFF#8 }) [(0x0010#16, 0x01#8), (0x0011#16, 0x30#8)]
      0x0200#16 [0x91#8, 0x10#8] (fun t => t.ramByte 0x3100#16 = 0x01#8 ∧ t.cycles = 6) = true := by decide

/-- LS16 (R125): STX $FF,Y ($96 $FF). -/
theorem test_LS16 :
    stepOf ({ start with x := 0xAB#8, y := 0x02#8 }) []
      0x0200#16 [0x96#8, 0xFF#8] (fun t => t.ramByte 0x0001#16 = 0xAB#8 ∧ t.cycles = 4) = true := by decide

/-- LS17 (R126, 60_exceptions.md R272): STY $D012 ($8C $12 $D0). -/
theorem test_LS17 :
    stepOf ({ start with y := 0x30#8 }) []
      0x0200#16 [0x8C#8, 0x12#8, 0xD0#8] (fun t => t.video.compare = 48 ∧
        t.ramByte 0xD012#16 = 0x00#8) = true := by decide

/-- LS18 (R127): TAX ($AA). -/
theorem test_LS18 :
    stepOf ({ start with a := 0x00#8, x := 0x55#8 }) []
      0x0200#16 [0xAA#8] (fun t => t.x = 0x00#8 ∧ t.flags.z = true ∧ t.flags.n = false) = true := by decide

/-- LS19 (R130): TYA ($98). -/
theorem test_LS19 :
    stepOf ({ start with y := 0x80#8 }) []
      0x0200#16 [0x98#8] (fun t => t.a = 0x80#8 ∧ t.flags.n = true ∧ t.flags.z = false) = true := by decide

/-- LS20 (R131): TSX ($BA). -/
theorem test_LS20 :
    stepOf ({ start with sp := 0x00#8 }) []
      0x0200#16 [0xBA#8] (fun t => t.x = 0x00#8 ∧ t.flags.z = true) = true := by decide

/-- LS21 (R132): TXS ($9A). -/
theorem test_LS21 :
    stepOf ({ start with
          x := 0x00#8, flags := { start.flags with z := false, n := true } })
      []
      0x0200#16 [0x9A#8] (fun t => t.sp = 0x00#8 ∧ t.flags.z = false ∧ t.flags.n = true) = true := by decide

/-- LS22 (R133): PHA ($48). -/
theorem test_LS22 :
    stepOf ({ start with a := 0x99#8, sp := 0x00#8 }) []
      0x0200#16 [0x48#8] (fun t => t.sp = 0xFF#8 ∧ t.ramByte 0x0100#16 = 0x99#8 ∧
        t.cycles = 3) = true := by decide

/-- LS23 (R134): PHP ($08). -/
theorem test_LS23 :
    stepOf ({ start with sp := 0xFF#8, flags := unpackP 0xCF#8 }) []
      0x0200#16 [0x08#8] (fun t => t.sp = 0xFE#8 ∧ t.ramByte 0x01FF#16 = 0xFF#8) = true := by decide

/-- LS24 (R134): PHP ($08). -/
theorem test_LS24 :
    stepOf ({ start with
          sp := 0xFF#8, flags := { unpackP 0x00#8 with i := false } })
      []
      0x0200#16 [0x08#8] (fun t => t.ramByte 0x01FF#16 = 0x30#8) = true := by decide

/-- LS25 (R135): PLA ($68). -/
theorem test_LS25 :
    stepOf ({ start with sp := 0xFF#8 }) [(0x0100#16, 0x00#8)]
      0x0200#16 [0x68#8] (fun t => t.a = 0x00#8 ∧ t.sp = 0x00#8 ∧ t.flags.z = true ∧
        t.cycles = 4) = true := by decide

/-- LS26 (R136): PLP ($28). -/
theorem test_LS26 :
    stepOf ({ start with sp := 0xFE#8, flags := unpackP 0xCF#8 }) [(0x01FF#16, 0x30#8)]
      0x0200#16 [0x28#8] (fun t => t.flags.n = false ∧ t.flags.v = false ∧ t.flags.d = false ∧
        t.flags.i = false ∧ t.flags.z = false ∧ t.flags.c = false ∧ t.sp = 0xFF#8) = true := by decide

/-- AR2 (R151): ADC #$01 ($69 $01). -/
theorem test_AR2 :
    stepOf ({ start with
          a := 0xFF#8, flags := { start.flags with c := false } })
      []
      0x0200#16 [0x69#8, 0x01#8] (fun t => t.a = 0x00#8 ∧ t.flags.c = true ∧ t.flags.v = false ∧
        t.flags.n = false ∧ t.flags.z = true) = true := by decide

/-- AR3 (R151): ADC #$01 ($69 $01). -/
theorem test_AR3 :
    stepOf ({ start with
          a := 0x7F#8, flags := { start.flags with c := false } })
      []
      0x0200#16 [0x69#8, 0x01#8] (fun t => t.a = 0x80#8 ∧ t.flags.c = false ∧ t.flags.v = true ∧
        t.flags.n = true ∧ t.flags.z = false) = true := by decide

/-- AR15 (R152): SBC #$01 ($E9 $01). -/
theorem test_AR15 :
    stepOf ({ start with
          a := 0x80#8, flags := { start.flags with c := true } })
      []
      0x0200#16 [0xE9#8, 0x01#8] (fun t => t.a = 0x7F#8 ∧ t.flags.c = true ∧ t.flags.v = true ∧
        t.flags.n = false ∧ t.flags.z = false) = true := by decide

/-- AR16 (R152): SBC #$03 ($E9 $03). -/
theorem test_AR16 :
    stepOf ({ start with
          a := 0x05#8, flags := { start.flags with c := false } })
      []
      0x0200#16 [0xE9#8, 0x03#8] (fun t => t.a = 0x01#8 ∧ t.flags.c = true ∧ t.flags.v = false ∧
        t.flags.n = false ∧ t.flags.z = false) = true := by decide

/-- AR24 (R153): AND #$0F ($29 $0F). -/
theorem test_AR24 :
    stepOf ({ start with a := 0xF0#8 }) []
      0x0200#16 [0x29#8, 0x0F#8] (fun t => t.a = 0x00#8 ∧ t.flags.z = true ∧
        t.flags.n = false) = true := by decide

/-- AR25 (R153): AND ($10),Y ($31 $10). -/
theorem test_AR25 :
    stepOf ({ start with a := 0xFF#8, y := 0x10#8 }) [(0x0010#16, 0xF8#8), (0x0011#16, 0x20#8), (0x2108#16, 0x81#8)]
      0x0200#16 [0x31#8, 0x10#8] (fun t => t.a = 0x81#8 ∧ t.flags.n = true ∧ t.cycles = 6) = true := by decide

/-- AR26 (R154): ORA #$80 ($09 $80). -/
theorem test_AR26 :
    stepOf ({ start with a := 0x01#8 }) []
      0x0200#16 [0x09#8, 0x80#8] (fun t => t.a = 0x81#8 ∧ t.flags.n = true ∧
        t.flags.z = false) = true := by decide

/-- AR27 (R155): EOR $40 ($45 $40). -/
theorem test_AR27 :
    stepOf ({ start with a := 0x5A#8 }) [(0x0040#16, 0x5A#8)]
      0x0200#16 [0x45#8, 0x40#8] (fun t => t.a = 0x00#8 ∧ t.flags.z = true ∧
        t.flags.n = false) = true := by decide

/-- AR28 (R156): BIT $40 ($24 $40). -/
theorem test_AR28 :
    stepOf ({ start with a := 0x00#8 }) [(0x0040#16, 0xFF#8)]
      0x0200#16 [0x24#8, 0x40#8] (fun t => t.flags.z = true ∧ t.flags.n = true ∧ t.flags.v = true ∧
        t.a = 0x00#8) = true := by decide

/-- AR29 (R156): BIT $4000 ($2C $00 $40). -/
theorem test_AR29 :
    stepOf ({ start with
          a := 0xFF#8, flags := { start.flags with n := true, v := true } })
      [(0x4000#16, 0x3F#8)]
      0x0200#16 [0x2C#8, 0x00#8, 0x40#8] (fun t => t.flags.z = false ∧ t.flags.n = false ∧
        t.flags.v = false) = true := by decide

/-- AR32 (R157): CMP #$00 ($C9 $00). -/
theorem test_AR32 :
    stepOf ({ start with a := 0x80#8 }) []
      0x0200#16 [0xC9#8, 0x00#8] (fun t => t.flags.c = true ∧ t.flags.z = false ∧
        t.flags.n = true) = true := by decide

/-- AR33 (R157): CMP #$01 ($C9 $01). -/
theorem test_AR33 :
    stepOf ({ start with
          a := 0x40#8, flags := { start.flags with v := true, d := true } })
      []
      0x0200#16 [0xC9#8, 0x01#8] (fun t => t.flags.c = true ∧ t.flags.z = false ∧ t.flags.n = false ∧
        t.flags.v = true) = true := by decide

/-- AR34 (R158): CPX $40 ($E4 $40). -/
theorem test_AR34 :
    stepOf ({ start with x := 0x10#8 }) [(0x0040#16, 0x20#8)]
      0x0200#16 [0xE4#8, 0x40#8] (fun t => t.flags.c = false ∧ t.flags.z = false ∧
        t.flags.n = true) = true := by decide

/-- AR35 (R159): CPY #$FF ($C0 $FF). -/
theorem test_AR35 :
    stepOf ({ start with y := 0xFF#8 }) []
      0x0200#16 [0xC0#8, 0xFF#8] (fun t => t.flags.c = true ∧ t.flags.z = true ∧
        t.flags.n = false) = true := by decide

/-- AR36 (R160): INC $FF,X ($F6 $FF). -/
theorem test_AR36 :
    stepOf ({ start with x := 0x41#8 }) [(0x0040#16, 0x7F#8)]
      0x0200#16 [0xF6#8, 0xFF#8] (fun t => t.ramByte 0x0040#16 = 0x80#8 ∧ t.flags.n = true ∧
        t.flags.z = false ∧ t.cycles = 6) = true := by decide

/-- AR37 (R160, 20_memory.md R57): INC $E000 ($EE $00 $E0). -/
theorem test_AR37 :
    stepOf start [(0xE000#16, 0x05#8)]
      0x0200#16 [0xEE#8, 0x00#8, 0xE0#8] (fun t => t.ramByte 0xE000#16 = 0x05#8 ∧ t.flags.z = false ∧
        t.flags.n = false) = true := by decide

/-- AR38 (R161): DEC $4000,X ($DE $00 $40). -/
theorem test_AR38 :
    stepOf ({ start with x := 0x00#8 }) [(0x4000#16, 0x00#8)]
      0x0200#16 [0xDE#8, 0x00#8, 0x40#8] (fun t => t.ramByte 0x4000#16 = 0xFF#8 ∧ t.flags.n = true ∧
        t.cycles = 7) = true := by decide

/-- AR39 (R162): INX ($E8). -/
theorem test_AR39 :
    stepOf ({ start with x := 0xFF#8 }) []
      0x0200#16 [0xE8#8] (fun t => t.x = 0x00#8 ∧ t.flags.z = true ∧ t.flags.n = false) = true := by decide

/-- AR40 (R163): INY ($C8). -/
theorem test_AR40 :
    stepOf ({ start with y := 0x7F#8 }) []
      0x0200#16 [0xC8#8] (fun t => t.y = 0x80#8 ∧ t.flags.n = true) = true := by decide

/-- AR41 (R164): DEX ($CA). -/
theorem test_AR41 :
    stepOf ({ start with x := 0x00#8 }) []
      0x0200#16 [0xCA#8] (fun t => t.x = 0xFF#8 ∧ t.flags.n = true) = true := by decide

/-- AR42 (R165): DEY ($88). -/
theorem test_AR42 :
    stepOf ({ start with y := 0x80#8 }) []
      0x0200#16 [0x88#8] (fun t => t.y = 0x7F#8 ∧ t.flags.n = false ∧ t.flags.z = false) = true := by decide

/-- AR43 (R166): ASL A ($0A). -/
theorem test_AR43 :
    stepOf ({ start with a := 0x80#8 }) []
      0x0200#16 [0x0A#8] (fun t => t.a = 0x00#8 ∧ t.flags.c = true ∧ t.flags.z = true ∧
        t.flags.n = false) = true := by decide

/-- AR44 (R166): ASL $40 ($06 $40). -/
theorem test_AR44 :
    stepOf ({ start with flags := { start.flags with c := true } }) [(0x0040#16, 0x41#8)]
      0x0200#16 [0x06#8, 0x40#8] (fun t => t.ramByte 0x0040#16 = 0x82#8 ∧ t.flags.c = false ∧
        t.flags.n = true ∧ t.cycles = 5) = true := by decide

/-- AR45 (R167): LSR A ($4A). -/
theorem test_AR45 :
    stepOf ({ start with a := 0xFF#8 }) []
      0x0200#16 [0x4A#8] (fun t => t.a = 0x7F#8 ∧ t.flags.c = true ∧ t.flags.n = false) = true := by decide

/-- AR46 (R167): LSR $4000,X ($5E $00 $40). -/
theorem test_AR46 :
    stepOf ({ start with x := 0x05#8 }) [(0x4005#16, 0x01#8)]
      0x0200#16 [0x5E#8, 0x00#8, 0x40#8] (fun t => t.ramByte 0x4005#16 = 0x00#8 ∧ t.flags.c = true ∧
        t.flags.z = true ∧ t.cycles = 7) = true := by decide

/-- AR47 (R168): ROL A ($2A). -/
theorem test_AR47 :
    stepOf ({ start with
          a := 0xFF#8, flags := { start.flags with c := true } })
      []
      0x0200#16 [0x2A#8] (fun t => t.a = 0xFF#8 ∧ t.flags.c = true ∧ t.flags.n = true) = true := by decide

/-- AR48 (R168): ROL A ($2A). -/
theorem test_AR48 :
    stepOf ({ start with
          a := 0x80#8, flags := { start.flags with c := false } })
      []
      0x0200#16 [0x2A#8] (fun t => t.a = 0x00#8 ∧ t.flags.c = true ∧ t.flags.z = true) = true := by decide

/-- AR49 (R169): ROR A ($6A). -/
theorem test_AR49 :
    stepOf ({ start with
          a := 0x00#8, flags := { start.flags with c := true } })
      []
      0x0200#16 [0x6A#8] (fun t => t.a = 0x80#8 ∧ t.flags.c = false ∧ t.flags.n = true) = true := by decide

/-- AR50 (R169): ROR $40 ($66 $40). -/
theorem test_AR50 :
    stepOf ({ start with flags := { start.flags with c := false } }) [(0x0040#16, 0x01#8)]
      0x0200#16 [0x66#8, 0x40#8] (fun t => t.ramByte 0x0040#16 = 0x00#8 ∧ t.flags.c = true ∧ t.flags.z = true ∧
        t.cycles = 5) = true := by decide

/-- CT1 (R195): BNE *+4 ($D0 $02). -/
theorem test_CT1 :
    stepOf ({ start with flags := { start.flags with z := true } }) []
      0x0200#16 [0xD0#8, 0x02#8] (fun t => t.pc = 0x0202#16 ∧ t.cycles = 2) = true := by decide

/-- CT2 (R195): BNE *+4 ($D0 $02). -/
theorem test_CT2 :
    stepOf ({ start with flags := { start.flags with z := false } }) []
      0x0200#16 [0xD0#8, 0x02#8] (fun t => t.pc = 0x0204#16 ∧ t.cycles = 3) = true := by decide

/-- CT3 (R192): BCS *+7 ($B0 $05) at $02FD. -/
theorem test_CT3 :
    stepOf ({ start with flags := { start.flags with c := true } }) []
      0x02FD#16 [0xB0#8, 0x05#8] (fun t => t.pc = 0x0304#16 ∧ t.cycles = 4) = true := by decide

/-- CT4 (R196): BPL *-126 ($10 $80) at $0280. -/
theorem test_CT4 :
    stepOf ({ start with flags := { start.flags with n := false } }) []
      0x0280#16 [0x10#8, 0x80#8] (fun t => t.pc = 0x0202#16 ∧ t.cycles = 3) = true := by decide

/-- CT5 (R194): BMI *+129 ($30 $7F). -/
theorem test_CT5 :
    stepOf ({ start with flags := { start.flags with n := true } }) []
      0x0200#16 [0x30#8, 0x7F#8] (fun t => t.pc = 0x0281#16 ∧ t.cycles = 3) = true := by decide

/-- CT6 (R197, R190): BVC *+129 ($50 $7F) at $FFF0. -/
theorem test_CT6 :
    stepOf ({ start with flags := { start.flags with v := false } }) [(0x0001#16, 0x35#8)]
      0xFFF0#16 [0x50#8, 0x7F#8] (fun t => t.pc = 0x0071#16 ∧ t.cycles = 4) = true := by decide

/-- CT7 (R198): BVS *+2 ($70 $00). -/
theorem test_CT7 :
    stepOf ({ start with flags := { start.flags with v := true } }) []
      0x0200#16 [0x70#8, 0x00#8] (fun t => t.pc = 0x0202#16 ∧ t.cycles = 3) = true := by decide

/-- CT8 (R191): BCC * ($90 $FE). -/
theorem test_CT8 :
    stepOf ({ start with flags := { start.flags with c := false } }) []
      0x0200#16 [0x90#8, 0xFE#8] (fun t => t.pc = 0x0200#16 ∧ t.cycles = 3) = true := by decide

/-- CT9 (R193): BEQ *+4 ($F0 $02). -/
theorem test_CT9 :
    stepOf ({ start with flags := { start.flags with z := false } }) []
      0x0200#16 [0xF0#8, 0x02#8] (fun t => t.pc = 0x0202#16 ∧ t.cycles = 2) = true := by decide

/-- CT10 (R199): JMP $1234 ($4C $34 $12). -/
theorem test_CT10 :
    stepOf start []
      0x0200#16 [0x4C#8, 0x34#8, 0x12#8] (fun t => t.pc = 0x1234#16 ∧ t.cycles = 3) = true := by decide

/-- CT11 (R199): JMP ($3000) ($6C $00 $30). -/
theorem test_CT11 :
    stepOf start [(0x3000#16, 0x78#8), (0x3001#16, 0x56#8)]
      0x0200#16 [0x6C#8, 0x00#8, 0x30#8] (fun t => t.pc = 0x5678#16 ∧ t.cycles = 5) = true := by decide

/-- CT13 (R200): JSR $4000 ($20 $00 $40). -/
theorem test_CT13 :
    stepOf ({ start with sp := 0x00#8 }) []
      0x0200#16 [0x20#8, 0x00#8, 0x40#8] (fun t => t.pc = 0x4000#16 ∧ t.sp = 0xFE#8 ∧
        t.ramByte 0x0100#16 = 0x02#8 ∧ t.ramByte 0x01FF#16 = 0x02#8 ∧ t.cycles = 6) = true := by decide

/-- CT14 (R201): RTS ($60). -/
theorem test_CT14 :
    stepOf ({ start with sp := 0xFD#8 }) [(0x01FE#16, 0xFF#8), (0x01FF#16, 0xFF#8)]
      0x0200#16 [0x60#8] (fun t => t.pc = 0x0000#16 ∧ t.sp = 0xFF#8 ∧ t.cycles = 6) = true := by decide

/-- CT16 (R202): RTI ($40). -/
theorem test_CT16 :
    stepOf ({ start with sp := 0xFC#8, nmiInService := true }) [(0x01FD#16, 0xC3#8), (0x01FE#16, 0x00#8), (0x01FF#16, 0x80#8)]
      0x0200#16 [0x40#8] (fun t => t.pc = 0x8000#16 ∧ t.sp = 0xFF#8 ∧ t.flags.n = true ∧ t.flags.v = true ∧
        t.flags.i = false ∧ t.flags.z = true ∧ t.flags.c = true ∧ t.nmiInService = false ∧
        t.cycles = 6) = true := by decide

/-- CT17 (R203): BRK ($00 $FF). -/
theorem test_CT17 :
    stepOf ({ start with
          sp := 0xFF#8, flags := { unpackP 0x08#8 with i := false } })
      [(0x0001#16, 0x35#8), (0xFFFE#16, 0x00#8), (0xFFFF#16, 0x90#8)]
      0x0200#16 [0x00#8, 0xFF#8] (fun t => t.pc = 0x9000#16 ∧ t.sp = 0xFC#8 ∧ t.flags.i = true ∧
        t.flags.d = true ∧ t.ramByte 0x01FF#16 = 0x02#8 ∧ t.ramByte 0x01FE#16 = 0x02#8 ∧
        t.ramByte 0x01FD#16 = 0x38#8 ∧ t.cycles = 7) = true := by decide

/-- CT19 (R204): NOP ($EA). -/
theorem test_CT19 :
    stepOf ({ start with a := 0x11#8 }) []
      0x0200#16 [0xEA#8] (fun t => t.pc = 0x0201#16 ∧ t.a = 0x11#8 ∧ t.cycles = 2) = true := by decide

/-- CT21 (R207): CLI ($58). -/
theorem test_CT21 :
    stepOf ({ start with flags := { start.flags with i := true } }) []
      0x0200#16 [0x58#8] (fun t => t.flags.i = false) = true := by decide

/-- CT22 (R208): SEI ($78). -/
theorem test_CT22 :
    stepOf ({ start with flags := { start.flags with i := false } }) []
      0x0200#16 [0x78#8] (fun t => t.flags.i = true) = true := by decide

/-- CT24 (R211): CLV ($B8). -/
theorem test_CT24 :
    stepOf ({ start with flags := { start.flags with v := true } }) []
      0x0200#16 [0xB8#8] (fun t => t.flags.v = false) = true := by decide

/-- MB12 (R56, 60_exceptions.md R268): LDA $D012 ($AD $12 $D0). -/
theorem test_MB12 :
    stepOf ({ start with video := { Video.reset with raster := 261 } }) [(0xD012#16, 0xEE#8)]
      0x0200#16 [0xAD#8, 0x12#8, 0xD0#8] (fun t => t.a = 0x05#8) = true := by decide

/-- MB13 (R54): LDA $D012 ($AD $12 $D0). -/
theorem test_MB13 :
    stepOf ({ start with video := { Video.reset with raster := 261 } }) [(0x0001#16, 0x30#8), (0xD012#16, 0xEE#8)]
      0x0200#16 [0xAD#8, 0x12#8, 0xD0#8] (fun t => t.a = 0xEE#8) = true := by decide

/-- EX1 (R231, R232, R235, R236): (IRQ entry, next opcode NOP) ($EA). -/
theorem test_EX1 :
    stepOf ({ start with
          sp := 0xFF#8, flags := { unpackP 0x01#8 with i := false },
          timer0 := { Timer.reset with pending := true, irqEnable := true } })
      [(0x0001#16, 0x35#8), (0xFFFE#16, 0x00#8), (0xFFFF#16, 0x90#8)]
      0x0200#16 [0xEA#8] (fun t => t.pc = 0x9000#16 ∧ t.sp = 0xFC#8 ∧ t.flags.i = true ∧
        t.ramByte 0x01FF#16 = 0x02#8 ∧ t.ramByte 0x01FE#16 = 0x00#8 ∧ t.ramByte 0x01FD#16 = 0x21#8 ∧
        t.cycles = 7) = true := by decide

/-- EX2 (R232): NOP (IRQ masked) ($EA). -/
theorem test_EX2 :
    stepOf ({ start with
          flags := { start.flags with i := true },
          timer0 := { Timer.reset with pending := true, irqEnable := true } })
      []
      0x0200#16 [0xEA#8] (fun t => t.pc = 0x0201#16 ∧ t.cycles = 2 ∧ t.irqLine = true) = true := by decide

/-- EX5 (R234): (NMI and IRQ both asserted) ($EA). -/
theorem test_EX5 :
    stepOf ({ start with
          sp := 0xFF#8, params := { Params.default with nmiTimer1 := true },
          flags := { start.flags with i := false },
          timer0 := { Timer.reset with pending := true, irqEnable := true },
          timer1 := { Timer.reset with pending := true, irqEnable := true } })
      [(0x0001#16, 0x35#8), (0xFFFA#16, 0x00#8), (0xFFFB#16, 0xA0#8), (0xFFFE#16, 0x00#8), (0xFFFF#16, 0x90#8),
        (0xA000#16, 0xEA#8)]
      0x0200#16 [0xEA#8] (fun t => t.pc = 0xA000#16 ∧ t.flags.i = true ∧ t.nmiInService = true ∧
        t.cycles = 7) = true := by decide

/-- EX6 (R233): (NMI held, already in service) ($EA). -/
theorem test_EX6 :
    stepOf ({ start with
          params := { Params.default with nmiTimer1 := true }, nmiInService := true,
          flags := { start.flags with i := true },
          timer1 := { Timer.reset with pending := true, irqEnable := true } })
      []
      0x0200#16 [0xEA#8] (fun t => t.pc = 0x0201#16 ∧ t.cycles = 2) = true := by decide

/-- EX7 (R239): (illegal opcode $02) ($02). -/
theorem test_EX7 :
    stepOf ({ start with a := 0x11#8 }) []
      0x0200#16 [0x02#8] (fun t => t.run = .halted 0x02#8 0x0200#16 ∧ t.pc = 0x0200#16 ∧ t.a = 0x11#8 ∧
        t.cycles = 0) = true := by decide

/-- EX9 (R234): (illegal opcode with IRQ pending, I=0) ($02). -/
theorem test_EX9 :
    stepOf ({ start with
          sp := 0xFF#8, flags := { start.flags with i := false },
          timer0 := { Timer.reset with pending := true, irqEnable := true } })
      [(0x0001#16, 0x35#8), (0xFFFE#16, 0x00#8), (0xFFFF#16, 0x90#8), (0x9000#16, 0xEA#8)]
      0x0200#16 [0x02#8] (fun t => t.run = .running ∧ t.pc = 0x9000#16 ∧ t.cycles = 7) = true := by decide

/-- EX11 (R258): NOP (one-shot timer counter 2) ($EA). -/
theorem test_EX11 :
    stepOf ({ start with
          timer0 := { Timer.reset with counter := 0x0002#16, latch := 0x0050#16, running := true, oneshot := true, irqEnable := true } })
      []
      0x0200#16 [0xEA#8] (fun t => t.timer0.counter = 0x0050#16 ∧ t.timer0.running = false ∧
        t.timer0.pending = true) = true := by decide

/-- EX13 (R258): NOP (latch 0) ($EA). -/
theorem test_EX13 :
    stepOf ({ start with
          timer0 := { Timer.reset with counter := 0x0001#16, latch := 0x0000#16, running := true, irqEnable := true } })
      []
      0x0200#16 [0xEA#8] (fun t => t.timer0.counter = 0xFFFF#16 ∧ t.timer0.pending = true) = true := by decide

/-- EX20 (R276, R277): NOP (62 cycles into the line) ($EA). -/
theorem test_EX20 :
    stepOf ({ start with
          video := { Video.reset with lineAcc := 61, raster := 9, compare := 10, irqEnable := true } })
      []
      0x0200#16 [0xEA#8] (fun t => t.video.raster = 10 ∧ t.video.lineAcc = 0 ∧ t.video.pending = true ∧
        t.irqLine = true) = true := by decide

/-- EX21 (R277): NOP (match while disabled) ($EA). -/
theorem test_EX21 :
    stepOf ({ start with
          video := { Video.reset with lineAcc := 61, raster := 9, compare := 10, irqEnable := false } })
      []
      0x0200#16 [0xEA#8] (fun t => t.video.raster = 10 ∧ t.video.pending = false) = true := by decide

/-- EX22 (R276, R277): NOP (last line of the frame) ($EA). -/
theorem test_EX22 :
    stepOf ({ start with
          video := { Video.reset with lineAcc := 62, raster := 311, compare := 0, irqEnable := true } })
      []
      0x0200#16 [0xEA#8] (fun t => t.video.raster = 0 ∧ t.video.lineAcc = 1 ∧
        t.video.pending = true) = true := by decide

/-- AR10 (R151), second step: decimal ADC #$01 at A = $99. -/
theorem test_AR10 :
    stepOf ({ start with a := 0x99#8, flags := { start.flags with d := true } }) []
      0x0200#16 [0x69#8, 0x01#8] (fun t => t.a = 0x00#8 ∧ t.flags.c = true ∧ t.flags.n = false ∧ t.flags.z = true) =
      true := by decide

/-- AR20 (R152), second step: decimal SBC #$01 at A = $00. -/
theorem test_AR20 :
    stepOf ({ start with flags := { start.flags with d := true, c := true } }) []
      0x0200#16 [0xE9#8, 0x01#8] (fun t => t.a = 0x99#8 ∧ t.flags.c = false ∧ t.flags.n = true ∧ t.flags.z = false) =
      true := by decide

/-- CT20, CT23 (R205, R206, R209, R210), one step each. -/
theorem test_flag_steps :
    stepOf start [] 0x0200#16 [0x38#8] (fun t => t.flags.c) = true ∧
    stepOf ({ start with flags := { start.flags with c := true } }) [] 0x0200#16 [0x18#8] (fun t => !t.flags.c) = true ∧
    stepOf start [] 0x0200#16 [0xF8#8] (fun t => t.flags.d) = true ∧
    stepOf ({ start with flags := { start.flags with d := true } }) [] 0x0200#16 [0xD8#8] (fun t => !t.flags.d) =
      true := by decide

/-- EX16 (R257), second step: STA $DC0E with $19 starts, sets one-shot and force-loads; then 4 ticks. -/
theorem test_EX16 :
    stepOf ({ start with
          a := 0x19#8, timer0 := { Timer.reset with counter := 0x0500#16, latch := 0x0100#16 } }) []
      0x0200#16 [0x8D#8, 0x0E#8, 0xDC#8] (fun t => t.timer0.running = true ∧ t.timer0.oneshot = true ∧
        t.timer0.counter = 0x00FC#16) = true := by decide

/-- RS1 (R302): a reset from bank byte $30 takes the vector from the KERNAL image and keeps other RAM. -/
theorem test_RS1 :
    (let s : State := { start with
          ram := [(1, 0x30#8), (0x300, 0xAB#8)], rom := { start.rom with kernal := [(0x1FFD, 0xFC#8)] }
          nmiInService := true, timer0 := { Timer.reset with running := true, counter := 0x0005#16 } }
     let t := s.resetEvent ⟨1#8, 2#8, 3#8, 4#8, true, true, true, true, true⟩
     t.pc = 0xFC00#16 ∧ t.flags.i = true ∧ t.ramByte 0x0001#16 = 0x37#8 ∧ t.ramByte 0x0300#16 = 0xAB#8 ∧
       t.nmiInService = false ∧ t.timer0.running = false) := by decide

/-- The next step after reset runs an instruction laid down for it: LDA #$00 (log 12). -/
theorem test_withFetchWord : (match step (State.reset.withFetchWord 8 0xA9) with
    | .next t => decide (t.pc = 0x0002#16 ∧ t.flags.z = true ∧ t.cycles = 2)
    | _ => false) = true := by decide

/-! ### Witnesses: for each statement with hypotheses, values that meet them together -/

theorem witness_EncodeReadsBackDecode : decode [0xEA#8, 0x60#8] = .ok (.nop, [0x60#8]) := rfl

theorem witness_IllegalOpcodesAreThoseListed :
    0x02#8 ∈ illegalOpcodes ∧ 0xFF#8 ∈ illegalOpcodes ∧
    (0x00#8 ∉ illegalOpcodes ∧ operandCount 0x00#8 ≤ ([] : List Byte).length) ∧
    (0xFE#8 ∉ illegalOpcodes ∧ operandCount 0xFE#8 ≤ [0x34#8, 0x12#8].length) ∧
    (0xFE#8 ∉ illegalOpcodes ∧ [0x34#8].length < operandCount 0xFE#8) := by decide

/-- A NOP at $0200, and an asserted IRQ that I masks. -/
def masked : State :=
  startAt { start with timer0 := { Timer.reset with pending := true, irqEnable := true } } [] 0x0200#16 [0xEA#8]

theorem witness_StepRunsTheFetchedInstruction :
    masked.run = .running ∧ masked.takesNmi = false ∧ masked.takesIrq = false ∧
    decode masked.codeBytes = .ok (.nop, [0x00#8, 0x00#8]) := ⟨rfl, by decide, by decide, rfl⟩

/-- An illegal opcode at the top of memory, where the bank bits map RAM. -/
def atIllegal : State := startAt { start with pc := 0xFFFF#16 } [(0x0001#16, 0x35#8)] 0xFFFF#16 [0x02#8]

theorem witness_IllegalOpcodeHalts :
    atIllegal.run = .running ∧ atIllegal.takesNmi = false ∧ atIllegal.takesIrq = false ∧
    atIllegal.peek atIllegal.pc ∈ illegalOpcodes := by decide

theorem witness_HaltIsSticky : ({ start with run := .halted 0x02#8 0x0200#16 } : State).run = .halted 0x02#8 0x0200#16 :=
  rfl

/-- An IRQ to be taken, by the timer 0. -/
def irqState : State :=
  { start with
    flags := { start.flags with i := false }, timer0 := { Timer.reset with pending := true, irqEnable := true } }

/-- An NMI and an IRQ together, the stack pointer at its wrap. -/
def nmiState : State :=
  { irqState with
    sp := 0x00#8, params := { Params.default with nmiTimer1 := true }
    timer1 := { Timer.reset with pending := true, irqEnable := true } }

theorem witness_InterruptEntry_irq :
    irqState.wf = true ∧ irqState.run = .running ∧ irqState.irqLine = true ∧ irqState.flags.i = false ∧
    ¬(irqState.nmiLine = true ∧ irqState.nmiInService = false) := by decide

theorem witness_InterruptEntry_nmi :
    nmiState.wf = true ∧ nmiState.run = .running ∧ nmiState.nmiLine = true ∧ nmiState.nmiInService = false ∧
    nmiState.irqLine = true := by decide

theorem witness_InterruptSampling :
    start.params.nmiTimer0 = false ∧ start.params.nmiTimer1 = false ∧ start.params.nmiVideo = false ∧
    nmiState.takesNmi = true ∧ irqState.takesIrq = true ∧ masked.takesIrq = false := by decide

theorem witness_NoNmiWithoutSources :
    start.params.nmiTimer0 = false ∧ start.params.nmiTimer1 = false ∧ start.params.nmiVideo = false ∧
    start.nmiInService = false ∧ ∃ t, step start = .next t := ⟨rfl, rfl, rfl, rfl, _, rfl⟩

theorem witness_ReturnRestoresTheInterruptedProgram :
    nmiState.wf = true ∧ nmiState.run = .running ∧
    (nmiState.nmiLine = true ∧ nmiState.nmiInService = false ∨ nmiState.irqLine = true ∧ nmiState.flags.i = false) ∧
    ∃ t h : State, step nmiState = .next t ∧ h.sp = t.sp ∧
      ∀ k ∈ [nmiState.sp, nmiState.sp - 1#8, nmiState.sp - 2#8],
        h.ramByte (stackAddr k) = t.ramByte (stackAddr k) :=
  ⟨by decide, rfl, by decide, _, _, rfl, rfl, fun _ _ => rfl⟩

/-- For the statements whose only hypothesis is that RAM is in canonical form: ResetSequence, BusWrites,
BankBitsTakeEffectAtOnce, PushRules, SubroutineRules, BreakRule. -/
theorem witness_canonical_ram : Memory.wf start.ram = true ∧ Memory.wf State.reset.ram = true := by decide

theorem witness_ResetForgetsTheHistory :
    Memory.wf start.ram = true ∧ Memory.wf masked.ram = true ∧ start.rom.kernal = masked.rom.kernal := by decide

theorem witness_PowerOnBuildsAWellFormedMachine (v : Byte) :
    Params.default.wf = true ∧ (List.replicate 65536 v).length = 65536 ∧ (List.replicate 8192 v).length = 8192 ∧
    (List.replicate 4096 v).length = 4096 ∧ ([v].length ≠ 8192) :=
  ⟨by decide, List.length_replicate, List.length_replicate, List.length_replicate, by simp⟩

theorem witness_StepKeepsWellFormed : masked.wf = true ∧ atIllegal.wf = true ∧ ∃ t, step masked = .next t :=
  ⟨by decide, by decide, _, rfl⟩

/-- A store to $4000. -/
def storing : State := startAt start [] 0x0200#16 [0x8D#8, 0x00#8, 0x40#8]

theorem witness_MemoryChangesOnlyWhereWritten : storing.run = .running ∧ ∃ t, step storing = .next t ∧
    t.busWrites = [0x4000#16] := ⟨rfl, _, rfl, by decide⟩

/-- A step of the fewest cycles, one of the most, and a halt. -/
theorem witness_StepCyclesAreBounded :
    (masked.run = .running ∧ ∃ t, step masked = .next t ∧ t.cycles = masked.cycles + 2) ∧
    (irqState.run = .running ∧ ∃ t, step irqState = .next t ∧ t.cycles = irqState.cycles + 7) ∧
    (atIllegal.run = .running ∧ ∃ t, step atIllegal = .next t ∧ t.cycles = atIllegal.cycles) :=
  ⟨⟨rfl, _, rfl, rfl⟩, ⟨rfl, _, rfl, rfl⟩, ⟨rfl, _, rfl, rfl⟩⟩

/-- Each register and flag does change under an instruction of its list. -/
theorem witness_RegistersChangeOnlyAsListed :
    (∃ t, exec (.ldaImm 0x01#8) start = .next t ∧ t.a ≠ start.a) ∧
    (∃ t, exec (.lsrAcc) { start with a := 0x02#8 } = .next t ∧ t.a ≠ 0x02#8) ∧
    (∃ t, exec .inx start = .next t ∧ t.x ≠ start.x) ∧ (∃ t, exec .dey start = .next t ∧ t.y ≠ start.y) ∧
    (∃ t, exec .txs start = .next t ∧ t.sp ≠ start.sp) ∧ (∃ t, exec .sec start = .next t ∧ t.flags.c ≠ start.flags.c) ∧
    (∃ t, exec .plp (poke start [(0x01FE#16, 0xFB#8)]) = .next t ∧
      t.flags.v ≠ start.flags.v ∧ t.flags.d ≠ start.flags.d ∧ t.flags.i ≠ start.flags.i ∧ t.flags.n ≠ start.flags.n) :=
  ⟨⟨_, rfl, by decide⟩, ⟨_, rfl, by decide⟩, ⟨_, rfl, by decide⟩, ⟨_, rfl, by decide⟩, ⟨_, rfl, by decide⟩,
    ⟨_, rfl, by decide⟩, ⟨_, rfl, by decide⟩⟩

/-- The map at the ends of its ranges, with everything mapped in, with the character ROM, and all RAM. -/
theorem witness_MemoryMap :
    ([0x0000#16, 0x9FFF#16, 0xC000#16, 0xCFFF#16, 0xD400#16, 0xDBFF#16, 0xDE00#16, 0xDFFF#16].all
        fun a => region a true true true = .ram) = true ∧
    ([0xA000#16, 0xBFFF#16].all fun a => region a true true true = .basicRom) = true ∧
    ([0xE000#16, 0xFFFF#16].all fun a => region a false true false = .kernalRom) = true ∧
    ([0xD000#16, 0xDFFF#16].all fun a => region a true false false = .charRom) = true ∧
    ([0xD000#16, 0xD3FF#16].all fun a => region a true false true = .video) = true ∧
    ([0xDC00#16, 0xDCFF#16].all fun a => region a false true true = .timer0) = true ∧
    ([0xDD00#16, 0xDDFF#16].all fun a => region a true true true = .timer1) = true ∧
    ([0xA000#16, 0xBFFF#16, 0xE000#16, 0xFFFF#16].all fun a => region a true false true = .ram) = true ∧
    ([0xA000#16, 0xD000#16, 0xFFFF#16].all fun a => region a false false true = .ram) = true := by decide

/-- An address of each region under the start state's map, and its mirror at the end of a window. -/
theorem witness_BusReads :
    start.regionOf 0xCFFF#16 = .ram ∧ start.regionOf 0xA000#16 = .basicRom ∧ start.regionOf 0xFFFF#16 = .kernalRom ∧
    (poke start [(0x0001#16, 0x33#8)]).regionOf 0xD000#16 = .charRom ∧ start.regionOf 0xD3FF#16 = .video ∧
    start.regionOf 0xDCFF#16 = .timer0 ∧ start.regionOf 0xDD00#16 = .timer1 := by decide

theorem witness_BusWrites : Memory.wf (poke start [(0x0001#16, 0x33#8)]).ram = true ∧
    (poke start [(0x0001#16, 0x33#8)]).regionOf 0xDFFF#16 = .charRom := by decide

theorem witness_OperandIsReadOnce : start.isChip (resolve (.abs 0xDBFF#16) start).addr = false := by decide

/-- The timer registers of both chips, at their first and at mirrored addresses; the four clauses by offset. -/
theorem witness_TimerRegisters :
    ([0xDC04#16, 0xDC05#16, 0xDC0D#16, 0xDC0E#16, 0xDCF4#16, 0xDCF5#16, 0xDCFD#16, 0xDCFE#16].all
      fun a => start.regionOf a = .timer0) = true ∧
    ([0xDD04#16, 0xDD05#16, 0xDD0D#16, 0xDD0E#16, 0xDDF4#16, 0xDDF5#16, 0xDDFD#16, 0xDDFE#16].all
      fun a => start.regionOf a = .timer1) = true ∧
    BitVec.toNat 0xDCF4#16 % 16 = 4 ∧ BitVec.toNat 0xDDF5#16 % 16 = 5 ∧ BitVec.toNat 0xDCFD#16 % 16 = 13 ∧ BitVec.toNat 0xDDFE#16 % 16 = 14 ∧
    start.timer0.wf = true ∧ start.timer1.wf = true ∧ Timer.reset.running = false ∧
    ({ Timer.reset with running := true } : Timer).running = true := by decide

theorem witness_UnmodelledRegistersAreDraws :
    (start.regionOf 0xDC00#16 = .timer0 ∧ BitVec.toNat 0xDC00#16 % 16 ∉ [4, 5, 13, 14]) ∧
    (start.regionOf 0xDDFF#16 = .timer1 ∧ BitVec.toNat 0xDDFF#16 % 16 ∉ [4, 5, 13, 14]) ∧
    (start.regionOf 0xD3FF#16 = .video ∧ BitVec.toNat 0xD3FF#16 % 64 ∉ [0x11, 0x12, 0x19, 0x1A]) := by decide

theorem witness_VideoRegisters :
    ([0xD011#16, 0xD012#16, 0xD019#16, 0xD01A#16, 0xD3D1#16, 0xD3D2#16, 0xD3D9#16, 0xD3DA#16].all
      fun a => start.regionOf a = .video) = true ∧
    BitVec.toNat 0xD3D1#16 % 64 = 0x11 ∧ BitVec.toNat 0xD3D2#16 % 64 = 0x12 ∧ BitVec.toNat 0xD3D9#16 % 64 = 0x19 ∧
    BitVec.toNat 0xD3DA#16 % 64 = 0x1A := by decide

/-- A stopped timer; running ones one tick before the underflow, at 0, and at its latch. -/
theorem witness_TimerUnderflowsOnTheNthTick :
    Timer.reset.running = false ∧
    ({ Timer.reset with running := true, counter := 0x0001#16 } : Timer).running = true ∧
    ({ Timer.reset with running := true, counter := 0x0000#16, latch := 0x0000#16 } : Timer).counter = 0#16 ∧
    (let t : Timer := { Timer.reset with running := true }
     t.running = true ∧ t.oneshot = false ∧ t.counter = t.latch) := by decide

/-- For VideoBatchEqualsTicks, RasterLineInClosedForm and RasterMatchOnLineAdvanceOnly: the defaults, the most lines a
frame may have with the line counter at its last line, and one line of one cycle. -/
theorem witness_video_ranges :
    (Params.default.wf = true ∧ Video.reset.wf Params.default = true ∧ Video.reset.pending = false) ∧
    (let p : Params := { Params.default with linesPerFrame := 512 }
     p.wf = true ∧ ({ Video.reset with raster := 511, lineAcc := 62 } : Video).wf p = true) ∧
    (let p : Params := { Params.default with cyclesPerLine := 1, linesPerFrame := 1 }
     p.wf = true ∧ Video.reset.wf p = true) := by decide

theorem witness_StatusByteRoundTrip : Memory.wf start.ram = true ∧
    ∃ t u, exec .php start = .next t ∧ exec .plp t = .next u := ⟨by decide, _, _, rfl, rfl⟩

/-- The three cases of ADC and SBC: binary, decimal on BCD operands (the highest), decimal on another operand; and the
one hypothesis of OverflowIsSigned. -/
theorem witness_AddAndSubtract :
    start.flags.d = false ∧
    (let s : State := { start with a := 0x99#8, flags := { start.flags with d := true } }
     s.flags.d = true ∧ bcdValid s.a = true ∧ bcdValid (operand (.imm 0x99#8) s).val = true ∧
       bcdValid (operand (.imm 0x9A#8) s).val = false) := by decide

/-- Each branch has states that take it and states that do not. -/
theorem witness_BranchRules :
    start.flags.c = false ∧ start.flags.z = false ∧ start.flags.n = false ∧ start.flags.v = false ∧
    (let f := unpackP 0xFF#8
     f.c = true ∧ f.z = true ∧ f.n = true ∧ f.v = true) := by decide

theorem witness_SubroutineReturnsAfterTheCall : Memory.wf start.ram = true ∧
    ∃ t h : State, exec (.jsrAbs 0x4000#16) start = .next t ∧ h.sp = t.sp ∧
      ∀ k ∈ [start.sp, start.sp - 1#8], h.ramByte (stackAddr k) = t.ramByte (stackAddr k) :=
  ⟨by decide, _, _, rfl, rfl, fun _ _ => rfl⟩

/-- The debugger example of T6: LDA #$01, STA $40, INC $40, STA $41, NOP at $0200. -/
def t6 : State :=
  startAt start [] 0x0200#16 [0xA9#8, 0x01#8, 0x85#8, 0x40#8, 0xE6#8, 0x40#8, 0x85#8, 0x41#8, 0xEA#8]

/-- A run ends for each of its reasons (RunStopsForItsReason). -/
theorem witness_RunStops_request : (debugRun ⟨[], []⟩ [true] t6).1 = .request ∧
    (debugRun ⟨[0x0202#16], []⟩ [false, true] t6).1 = .request := by decide
theorem witness_RunStops_breakpoint : (debugRun ⟨[0x0202#16], []⟩ [false, false] t6).1 = .breakpoint := by decide
theorem witness_RunStops_watchpoint : (debugRun ⟨[], [0x0040#16]⟩ [false, false] t6).1 = .watchpoint := by decide
theorem witness_RunStops_halted : (debugRun ⟨[], []⟩ [false] atIllegal).1 = .halted 0x02#8 0xFFFF#16 := by decide
theorem witness_RunStops_going : (debugRun ⟨[0x0200#16], []⟩ [false, false] t6).1 = .going ∧
    (debugRun ⟨[], []⟩ [] t6).1 = .going := by decide

end Sys2Proof.Tests
end

section
/-! PROOFS. No step ends in a fault or a refusal: every instruction's meaning answers a next state, so every step does
(00_scope.md R10). -/

namespace Sys2Proof.Machine

/-- Every instruction's meaning answers a next state; only a branch has two ways to do so. -/
theorem exec_next (i : Instr) (s : State) : ∃ t, exec i s = .next t := by
  cases i with
  | bcc _ | bcs _ | beq _ | bmi _ | bne _ | bpl _ | bvc _ | bvs _ =>
    simp only [exec, execBcc, execBcs, execBeq, execBmi, execBne, execBpl, execBvc, execBvs]
    exact branchOp_next _ _
  | _ => exact ⟨_, rfl⟩

theorem runInstr_next (i : Instr) (s : State) : ∃ t, runInstr i s = .next t := by
  obtain ⟨t, ht⟩ := exec_next i s
  exact ⟨s.endStep t, by simp only [runInstr, ht]⟩

/-- The three ways of a running machine's step: an interrupt entry, the halt, an instruction (60_exceptions.md R231). -/
theorem stepRunning_next (s : State) : ∃ t, stepRunning s = .next t := by
  unfold stepRunning
  split
  · exact ⟨_, rfl⟩
  · split
    · exact ⟨_, rfl⟩
    · exact runInstr_next _ _

/-- Settles O5: a halted machine stays as it is, a running one goes one of three ways, each to a next state. -/
theorem everyStepAnswersNext : Obligations.EveryStepAnswersNext := by
  intro s
  cases h : s.run with
  | halted op a => exact ⟨s, step_of_halted s h⟩
  | running =>
    obtain ⟨t, ht⟩ := stepRunning_next s.beginStep
    exact ⟨t, by simp only [step, h, ht]⟩

end Sys2Proof.Machine
end

section
/-! PROOFS. The unmodelled registers: what a read and a write of one do to its chip, then to the machine
(60_exceptions.md R261, R275). -/

namespace Sys2Proof.Machine

@[simp] theorem timerOff_toNat (a : Word) : (timerOff a).toNat = a.toNat % 16 := by simp [timerOff]
@[simp] theorem videoOff_toNat (a : Word) : (videoOff a).toNat = a.toNat % 64 := by simp [videoOff]

section Timer
variable {off : BitVec 4} (h : off.toNat ∉ [4, 5, 13, 14])
include h

theorem Timer.ne_modelled_of_notMem : off ≠ 0x4#4 ∧ off ≠ 0x5#4 ∧ off ≠ 0xD#4 ∧ off ≠ 0xE#4 := by
  refine ⟨?_, ?_, ?_, ?_⟩ <;> rintro rfl <;> exact h (by decide)

theorem Timer.readByte_unmodelled (chip : Chip) (draw : Nat) (t : Timer) :
    t.readByte chip off draw = Config.ioDraw chip off.toNat draw := by
  simp [Timer.readByte, Timer.ne_modelled_of_notMem h]

theorem Timer.afterRead_unmodelled (t : Timer) : t.afterRead off = t := by
  simp [Timer.afterRead, Timer.ne_modelled_of_notMem h]

theorem Timer.draws_unmodelled : Timer.draws off = true := by
  simp [Timer.draws, Timer.ne_modelled_of_notMem h]

theorem Timer.write_unmodelled (v : Byte) (t : Timer) : t.write off v = t := by
  simp [Timer.write, Timer.ne_modelled_of_notMem h]

end Timer

section Video
variable {off : BitVec 6} (h : off.toNat ∉ [0x11, 0x12, 0x19, 0x1A])
include h

theorem Video.ne_modelled_of_notMem : off ≠ 0x11#6 ∧ off ≠ 0x12#6 ∧ off ≠ 0x19#6 ∧ off ≠ 0x1A#6 := by
  refine ⟨?_, ?_, ?_, ?_⟩ <;> rintro rfl <;> exact h (by decide)

theorem Video.readByte_unmodelled (draw : Nat) (v : Video) :
    v.readByte off draw = Config.ioDraw .video off.toNat draw := by
  simp [Video.readByte, Video.ne_modelled_of_notMem h]

theorem Video.afterRead_unmodelled (v : Video) : v.afterRead off = v := by
  simp [Video.afterRead, Video.ne_modelled_of_notMem h]

theorem Video.draws_unmodelled : Video.draws off = true := by
  simp [Video.draws, Video.ne_modelled_of_notMem h]

theorem Video.write_unmodelled (b : Byte) (v : Video) : v.write off b = v := by
  simp [Video.write, Video.ne_modelled_of_notMem h]

end Video

variable {s : State} {a : Word}

/-- The access to `a` reaches a register of `chip` at `off` that the spec leaves unmodelled: a read returns the draw
and does nothing but take it, a write does nothing to what it reaches. -/
structure State.UnmodelledAt (s : State) (a : Word) (chip : Chip) (off : Nat) : Prop where
  peek : s.peek a = Config.ioDraw chip off s.drawIndex
  afterRead : s.afterRead a = s.nextDraw
  writeRegion : ∀ v, s.writeRegion (s.regionOf a) a v = s

theorem State.unmodelledAt_timer {chip : Chip}
    (hr : s.regionOf a = .timer0 ∧ chip = .timer0 ∨ s.regionOf a = .timer1 ∧ chip = .timer1)
    (h : a.toNat % 16 ∉ [4, 5, 13, 14]) : s.UnmodelledAt a chip (a.toNat % 16) := by
  rw [← timerOff_toNat] at h ⊢
  rcases hr with ⟨hr, rfl⟩ | ⟨hr, rfl⟩ <;> exact {
    peek := by simp only [State.peek, hr, Timer.readByte_unmodelled h]
    afterRead := by
      simp only [State.afterRead, hr, Timer.afterRead_unmodelled h, Timer.draws_unmodelled h]
      rfl
    writeRegion := fun v => by simp only [State.writeRegion, hr, Timer.write_unmodelled h] }

theorem State.unmodelledAt_video (hr : s.regionOf a = .video) (h : a.toNat % 64 ∉ [0x11, 0x12, 0x19, 0x1A]) :
    s.UnmodelledAt a .video (a.toNat % 64) := by
  rw [← videoOff_toNat] at h ⊢
  exact {
    peek := by simp only [State.peek, hr, Video.readByte_unmodelled h]
    afterRead := by
      simp only [State.afterRead, hr, Video.afterRead_unmodelled h, Video.draws_unmodelled h]
      rfl
    writeRegion := fun v => by simp only [State.writeRegion, hr, Video.write_unmodelled h] }

/-- Taking a draw moves the draw index and nothing else. -/
theorem State.nextDraw_frame (s : State) : AgreeExcept [.drawIndex] s s.nextDraw := by
  intro f hf
  cases f <;> simp_all [agreeOn, State.ramByte]

/-- A write that does nothing to what it reaches changes the record of writes alone. -/
theorem State.busWrite_frame_of_writeRegion_eq {v : Byte} (h : s.writeRegion (s.regionOf a) a v = s) :
    AgreeExcept [.busWrites] s (s.busWrite a v) := by
  intro f hf
  simp only [State.busWrite, h]
  cases f <;> simp_all [agreeOn, State.ramByte]

theorem State.UnmodelledAt.access {chip : Chip} {off : Nat} (h : s.UnmodelledAt a chip off) (v : Byte) :
    (s.busRead a).1 = Config.ioDraw chip off s.drawIndex ∧ (s.busRead a).2.drawIndex = s.drawIndex + 1 ∧
      AgreeExcept [.drawIndex] s (s.busRead a).2 ∧ AgreeExcept [.busWrites] s (s.busWrite a v) := by
  rw [State.busRead_fst, State.busRead_snd, h.afterRead]
  exact ⟨h.peek, rfl, s.nextDraw_frame, State.busWrite_frame_of_writeRegion_eq (h.writeRegion v)⟩

/-- Settles O30: at an unmodelled offset of each of the three chips a read only takes a draw, and a write only joins
the record of writes. -/
theorem unmodelledRegistersAreDraws : Obligations.UnmodelledRegistersAreDraws := by
  rintro s a v chip off (⟨hr, rfl, rfl, h⟩ | ⟨hr, rfl, rfl, h⟩ | ⟨hr, rfl, rfl, h⟩)
  · exact (State.unmodelledAt_timer (.inl ⟨hr, rfl⟩) h).access v
  · exact (State.unmodelledAt_timer (.inr ⟨hr, rfl⟩) h).access v
  · exact (State.unmodelledAt_video hr h).access v

end Sys2Proof.Machine
end

section
/-! PROOFS. A running machine's step taken apart: a chain of primitive operations, then the chips' advance or the halt
at an illegal opcode (60_exceptions.md R231, R239). -/

namespace Sys2Proof.Machine

variable {s t : State}

/-- A fetch answers `illegal` only at an illegal opcode (30_encoding.md R107). -/
theorem State.illegalOpcode_of_fetch {op : Byte} (e : s.fetch = .illegal op t) : illegalOpcodes.contains op = true := by
  simp only [State.fetch] at e
  split at e <;> cases e
  rename_i h
  rw [← opcodeShape_isNone, h]
  rfl

variable {P : State → State → Prop}

/-- What the primitive operations and the NMI's service bit keep, an interrupt entry keeps; the operations that only a
step makes are not asked for. -/
theorem KeptByOps.interruptEntry (h : KeptByOps P) (hn : ∀ u, P u (u.setNmiInService true))
    (e : s.interruptEntry = some t) : P s t := by
  unfold State.interruptEntry at e
  split_ifs at e <;> cases e
  · exact h.trans (h.enter _ _ _) (h.trans (hn _) (h.addCycles _ _))
  · exact h.trans (h.enter _ _ _) (h.addCycles _ _)

/-- A running machine's step reaches some `u` by primitive operations alone, and ends with the chips' advance from `u` or
with the halt of `u` at an illegal opcode. -/
theorem KeptByOps.stepRunning_cases (h : KeptByOps P) (hn : ∀ u, P u (u.setNmiInService true))
    (e : Machine.stepRunning s = .next t) :
    ∃ u, P s u ∧ ((∃ c, t = State.advanceChips c u) ∨ ∃ op, illegalOpcodes.contains op = true ∧ t = u.halt op) := by
  unfold Machine.stepRunning at e
  split at e
  · rename_i u hu
    cases e
    exact ⟨u, h.interruptEntry hn hu, .inl ⟨_, rfl⟩⟩
  · split at e
    · rename_i op u hu
      cases e
      exact ⟨u, h.fetch_illegal hu, .inr ⟨op, State.illegalOpcode_of_fetch hu, rfl⟩⟩
    · rename_i i u hu
      unfold Machine.runInstr at e
      split at e <;> cases e
      rename_i v hv
      exact ⟨v, h.trans (h.fetch_instr hu) (h.exec hv), .inl ⟨_, rfl⟩⟩

end Sys2Proof.Machine
end

section
/-! PROOFS. The invariant, in two parts: the ranges of the data, which every operation keeps one by one, and the record
of a halt, which only the step as a whole makes true (10_state.md R40 to R43; 60_exceptions.md R239). -/

namespace Sys2Proof.Machine

variable {s t : State}

/-- The invariant but for what it says of a halt: memories canonical, parameters and chips in their ranges. -/
def State.DataWf (s : State) : Prop :=
  Memory.wf s.ram = true ∧ Roms.wf s.rom = true ∧ s.params.wf = true ∧ s.timer0.wf = true ∧ s.timer1.wf = true ∧
    s.video.wf s.params = true

theorem State.wf_iff : s.wf = true ↔ s.DataWf ∧ s.haltWf = true := by
  simp only [State.wf, State.DataWf, Bool.and_eq_true, and_assoc]

/-- A running machine records no halt. -/
theorem State.haltWf_of_running (h : s.run = .running) : s.haltWf = true := by simp only [State.haltWf, h]

theorem State.afterRead_dataWf (a : Word) (h : s.DataWf) : (s.afterRead a).DataWf := by
  obtain ⟨hram, hrom, hp, h0, h1, hv⟩ := h
  unfold State.afterRead
  split
  case h_5 => simpa [State.DataWf, hram, hrom, hp, h0, h1] using Video.afterRead_wf _ hv
  case h_6 => simpa [State.DataWf, hram, hrom, hp, h1, hv] using Timer.afterRead_wf _ h0
  case h_7 => simpa [State.DataWf, hram, hrom, hp, h0, hv] using Timer.afterRead_wf _ h1
  all_goals exact ⟨hram, hrom, hp, h0, h1, hv⟩

theorem State.writeRegion_dataWf (r : Region) (a : Word) (v : Byte) (h : s.DataWf) : (s.writeRegion r a v).DataWf := by
  obtain ⟨hram, hrom, hp, h0, h1, hv⟩ := h
  cases r with
  | ram => exact ⟨State.setRamByte_wf hram, hrom, hp, h0, h1, hv⟩
  | basicRom | kernalRom | charRom => exact ⟨hram, hrom, hp, h0, h1, hv⟩
  | video => exact ⟨hram, hrom, hp, h0, h1, Video.write_wf _ _ hv⟩
  | timer0 => exact ⟨hram, hrom, hp, Timer.write_wf _ _ h0, h1, hv⟩
  | timer1 => exact ⟨hram, hrom, hp, h0, Timer.write_wf _ _ h1, hv⟩

theorem State.advanceChips_dataWf (c : Nat) (h : s.DataWf) : (State.advanceChips c s).DataWf := by
  obtain ⟨hram, hrom, hp, h0, h1, hv⟩ := h
  simp only [State.DataWf, State.advanceChips_ram, State.advanceChips_rom, State.advanceChips_params,
    State.advanceChips_timer0, State.advanceChips_timer1, State.advanceChips_video]
  exact ⟨hram, hrom, hp, Timer.ticks_wf _ h0, Timer.ticks_wf _ h1, Video.ticks_wf _ hp hv⟩

/-- Every operation of a step keeps the ranges: reads, writes and ticks touch a chip by its own laws, and nothing else
touches RAM, ROM, parameters or chips at all. -/
theorem keptByStep_dataWf : KeptByStep fun s t => s.DataWf → t.DataWf where
  refl _ h := h
  trans h h' := h' ∘ h
  setA _ _ h := h
  setX _ _ h := h
  setY _ _ h := h
  setSp _ _ h := h
  setPc _ _ h := h
  setFlags _ _ h := h
  clearNmi _ h := h
  addCycles _ _ h := h
  nextDraw _ h := h
  afterRead _ a h := State.afterRead_dataWf a h
  busWrite _ a v h := State.writeRegion_dataWf _ a v h
  beginStep _ h := h
  setNmi _ h := h
  halt _ _ h := h
  advanceChips _ c h := State.advanceChips_dataWf c h

/-- No primitive operation of an instruction changes the run state: only a step's halt does. -/
theorem keptByOps_run : KeptByOps fun s t => t.run = s.run where
  refl _ := rfl
  trans h h' := h'.trans h
  setA _ _ := rfl
  setX _ _ := rfl
  setY _ _ := rfl
  setSp _ _ := rfl
  setPc _ _ := rfl
  setFlags _ _ := rfl
  clearNmi _ := rfl
  addCycles _ _ := rfl
  nextDraw _ := rfl
  afterRead s a := s.afterRead_run a
  busWrite s a v := s.busWrite_run a v

/-- A machine that a step leaves halted was halted so before, or halts now at the illegal opcode at PC. -/
theorem step_haltWf (hs : s.haltWf = true) (e : step s = .next t) : t.haltWf = true := by
  cases hrun : s.run with
  | halted op a =>
    rw [step_of_halted s hrun] at e
    cases e
    exact hs
  | running =>
    simp only [step, hrun] at e
    obtain ⟨u, hu, ⟨c, rfl⟩ | ⟨op, hop, rfl⟩⟩ := keptByOps_run.stepRunning_cases (fun _ => rfl) e
    · exact State.haltWf_of_running ((State.advanceChips_run u c).trans (hu.trans hrun))
    · simp only [State.haltWf, State.halt, hop, decide_true, Bool.and_self]

theorem Timer.reset_wf : Timer.reset.wf = true := rfl

theorem Video.reset_wf {p : Params} (hp : p.wf = true) : Video.reset.wf p = true := by
  simp only [Params.wf, Bool.and_eq_true, decide_eq_true_eq] at hp
  simp [Video.wf, Video.reset, hp.1]

theorem State.resetEvent_run (draw : ResetDraw) : (s.resetEvent draw).run = .running := by
  rw [State.resetEvent, State.setPc_run, State.read16_run]

/-- A reset writes one RAM byte, sets the chips to their reset values and reads the vector (70_reset_and_hazards.md
R302). -/
theorem State.resetEvent_dataWf (draw : ResetDraw) (h : s.DataWf) : (s.resetEvent draw).DataWf := by
  obtain ⟨hram, hrom, hp, -⟩ := h
  exact keptByStep_dataWf.read16 resetVector
    ⟨State.setRamByte_wf hram, hrom, hp, Timer.reset_wf, Timer.reset_wf, Video.reset_wf hp⟩

/-- Settles O18: every operation of a step keeps the ranges of the data, a step halts only at an illegal opcode at PC,
and a reset leaves a running machine with its chips at their reset values. -/
theorem stepKeepsWellFormed : Obligations.StepKeepsWellFormed := by
  simp only [Obligations.StepKeepsWellFormed, State.wf_iff]
  refine ⟨fun s t ⟨hd, hh⟩ e => ⟨keptByStep_dataWf.step e hd, step_haltWf hh e⟩, fun s draw ⟨hd, _⟩ => ?_⟩
  exact ⟨State.resetEvent_dataWf draw hd, State.haltWf_of_running (State.resetEvent_run draw)⟩

end Sys2Proof.Machine
end

section
/-! PROOFS. Memory changes only by the CPU's writes: the ROM images and the parameters never, a byte of RAM only at an
address that joined the write list (10_state.md R41; 20_memory.md R57, R68, R69). -/

namespace Sys2Proof.Machine

variable {s t : State}

/-- No operation of a step touches the ROM images or the parameters. -/
theorem keptByStep_rom_params : KeptByStep fun s t => t.rom = s.rom ∧ t.params = s.params where
  refl _ := ⟨rfl, rfl⟩
  trans h h' := ⟨h'.1.trans h.1, h'.2.trans h.2⟩
  setA _ _ := ⟨rfl, rfl⟩
  setX _ _ := ⟨rfl, rfl⟩
  setY _ _ := ⟨rfl, rfl⟩
  setSp _ _ := ⟨rfl, rfl⟩
  setPc _ _ := ⟨rfl, rfl⟩
  setFlags _ _ := ⟨rfl, rfl⟩
  clearNmi _ := ⟨rfl, rfl⟩
  addCycles _ _ := ⟨rfl, rfl⟩
  nextDraw _ := ⟨rfl, rfl⟩
  afterRead s a := ⟨s.afterRead_rom a, s.afterRead_params a⟩
  busWrite s a v := ⟨s.busWrite_rom a v, s.busWrite_params a v⟩
  beginStep _ := ⟨rfl, rfl⟩
  setNmi _ := ⟨rfl, rfl⟩
  halt _ _ := ⟨rfl, rfl⟩
  advanceChips s c := ⟨s.advanceChips_rom c, s.advanceChips_params c⟩

/-- From `s` to `t` the write list has grown by addresses that cover every byte of RAM that changed. -/
def WritesLogged (s t : State) : Prop := ∃ log, t.busWrites = log ++ s.busWrites ∧ SameRamBut log s t

/-- An operation that makes no write: neither RAM nor the write list changes. -/
theorem WritesLogged.of_eq (hr : t.ram = s.ram) (hb : t.busWrites = s.busWrites) : WritesLogged s t :=
  ⟨[], hb, SameRamBut.of_ram_eq hr⟩

theorem WritesLogged.trans {u : State} (h : WritesLogged s t) (h' : WritesLogged t u) : WritesLogged s u := by
  obtain ⟨l, hl, hr⟩ := h
  obtain ⟨l', hl', hr'⟩ := h'
  refine ⟨l' ++ l, by rw [hl', hl, List.append_assoc], fun w hw => ?_⟩
  rw [List.mem_append, not_or] at hw
  exact (hr' w hw.1).trans (hr w hw.2)

/-- Every primitive operation of an instruction logs the write it makes. -/
theorem keptByOps_writesLogged : KeptByOps WritesLogged where
  refl _ := .of_eq rfl rfl
  trans := .trans
  setA _ _ := .of_eq rfl rfl
  setX _ _ := .of_eq rfl rfl
  setY _ _ := .of_eq rfl rfl
  setSp _ _ := .of_eq rfl rfl
  setPc _ _ := .of_eq rfl rfl
  setFlags _ _ := .of_eq rfl rfl
  clearNmi _ := .of_eq rfl rfl
  addCycles _ _ := .of_eq rfl rfl
  nextDraw _ := .of_eq rfl rfl
  afterRead s a := .of_eq (s.afterRead_ram a) (s.afterRead_busWrites a)
  busWrite s a v := ⟨[a], s.busWrite_busWrites a v, s.busWrite_sameRamBut a v⟩

/-- A running machine's step logs its writes; its end, by the chips' advance or the halt, makes none. -/
theorem stepRunning_writesLogged (e : stepRunning s = .next t) : WritesLogged s t := by
  obtain ⟨u, hu, ⟨c, rfl⟩ | ⟨op, -, rfl⟩⟩ := keptByOps_writesLogged.stepRunning_cases (fun _ => .of_eq rfl rfl) e
  · exact hu.trans (.of_eq (u.advanceChips_ram c) (u.advanceChips_busWrites c))
  · exact hu.trans (.of_eq rfl rfl)

/-- Settles O19: the step of a running machine empties the write list first, so that what the list has grown by is the
whole list. -/
theorem memoryChangesOnlyWhereWritten : Obligations.MemoryChangesOnlyWhereWritten := by
  intro s t e
  obtain ⟨hrom, hparams⟩ := keptByStep_rom_params.step e
  refine ⟨hrom, hparams, fun hrun => ?_⟩
  simp only [step, hrun] at e
  obtain ⟨log, hlog, hram⟩ := stepRunning_writesLogged e
  have hall : t.busWrites = log := hlog.trans (List.append_nil log)
  rw [hall]
  exact hram

end Sys2Proof.Machine
end

section
/-! PROOFS. Which registers and flags an instruction may change: each shape of meaning held to R47's table
(10_state.md R35, R47). -/

namespace Sys2Proof.Machine

/-- The registers and flags of R47's table but for PC. -/
def registerFields : List Field := [.a, .x, .y, .sp, .n, .v, .d, .i, .z, .c]

/-- The column "written by" of R47's table; for A without the shifts and rotates, which write it in one mode only. -/
def Field.writers : Field → List Mnemonic
  | .a => [.lda, .txa, .tya, .pla, .adc, .sbc, .and, .ora, .eor]
  | .x => [.ldx, .tax, .tsx, .inx, .dex]
  | .y => [.ldy, .tay, .iny, .dey]
  | .sp => [.txs, .pha, .php, .pla, .plp, .jsr, .rts, .rti, .brk]
  | .c => [.adc, .sbc, .cmp, .cpx, .cpy, .asl, .lsr, .rol, .ror, .clc, .sec, .plp, .rti]
  | .v => [.adc, .sbc, .bit, .clv, .plp, .rti]
  | .d => [.sed, .cld, .plp, .rti]
  | .i => [.sei, .cli, .plp, .rti, .brk]
  | .n | .z =>
    [.lda, .ldx, .ldy, .tax, .tay, .txa, .tya, .tsx, .pla, .adc, .sbc, .and, .ora, .eor, .cmp, .cpx, .cpy, .inc, .dec,
      .inx, .iny, .dex, .dey, .asl, .lsr, .rol, .ror, .bit, .plp, .rti]
  | _ => []

/-- The table read by mnemonic: what each may write. -/
def tableWrites : Mnemonic → List Field
  | .lda | .txa | .tya | .and | .ora | .eor => [.a, .n, .z]
  | .ldx | .tax | .tsx | .inx | .dex => [.x, .n, .z]
  | .ldy | .tay | .iny | .dey => [.y, .n, .z]
  | .txs | .pha | .php | .jsr | .rts => [.sp]
  | .pla => [.sp, .a, .n, .z]
  | .plp | .rti => [.sp, .n, .v, .d, .i, .z, .c]
  | .brk => [.sp, .i]
  | .adc | .sbc => [.a, .n, .v, .z, .c]
  | .inc | .dec => [.n, .z]
  | .cmp | .cpx | .cpy | .asl | .lsr | .rol | .ror => [.n, .z, .c]
  | .bit => [.n, .v, .z]
  | .clc | .sec => [.c]
  | .cli | .sei => [.i]
  | .cld | .sed => [.d]
  | .clv => [.v]
  | .sta | .stx | .sty | .bcc | .bcs | .beq | .bmi | .bne | .bpl | .bvc | .bvs | .jmp | .nop => []

theorem mem_writers_of_mem_tableWrites {m : Mnemonic} : ∀ f ∈ tableWrites m, m ∈ f.writers := by
  cases m <;> decide

/-- What the table lets an instruction write: accumulator mode writes A as well. -/
def mayWrite (i : Instr) : List Field :=
  match i.mode with
  | .acc => .a :: tableWrites i.mnemonic
  | _ => tableWrites i.mnemonic

/-- Of the registers and flags of the table, only those in `l` differ. -/
def RegistersBut (l : List Field) (s t : State) : Prop := ∀ f ∈ registerFields, f ∉ l → agreeOn s t f

variable {s t u : State} {l l' : List Field} {len base : Nat}

theorem RegistersBut.trans (h : RegistersBut l s t) (h' : RegistersBut l t u) : RegistersBut l s u :=
  fun f hf hl => agreeOn_trans (h f hf hl) (h' f hf hl)

theorem RegistersBut.mono (h : RegistersBut l s t) (hl : l ⊆ l') : RegistersBut l' s t :=
  fun f hf hn => h f hf fun hm => hn (hl hm)

/-- One change after another: what either may change. -/
theorem RegistersBut.append (h : RegistersBut l s t) (h' : RegistersBut l' t u) : RegistersBut (l ++ l') s u :=
  (h.mono (List.subset_append_left _ _)).trans (h'.mono (List.subset_append_right _ _))

/-- What leaves the registers and flags all alone fits any list. -/
theorem RegistersBut.of_eq (ha : t.a = s.a) (hx : t.x = s.x) (hy : t.y = s.y) (hsp : t.sp = s.sp)
    (hflags : t.flags = s.flags) : RegistersBut l s t := by
  intro f hf _
  cases f <;> simp_all [registerFields, agreeOn]

theorem State.finish_registersBut (n c : Nat) : RegistersBut l s (s.finish n c) := .of_eq rfl rfl rfl rfl rfl

theorem State.addCycles_registersBut (c : Nat) : RegistersBut l s (s.addCycles c) := .of_eq rfl rfl rfl rfl rfl

theorem State.jump_registersBut (w : Word) (c : Nat) : RegistersBut l s (s.jump w c) := .of_eq rfl rfl rfl rfl rfl

theorem State.afterRead_registersBut (a : Word) : RegistersBut l s (s.afterRead a) :=
  .of_eq (s.afterRead_a a) (s.afterRead_x a) (s.afterRead_y a) (s.afterRead_sp a) (s.afterRead_flags a)

theorem State.busWrite_registersBut (a : Word) (v : Byte) : RegistersBut l s (s.busWrite a v) :=
  .of_eq (s.busWrite_a a v) (s.busWrite_x a v) (s.busWrite_y a v) (s.busWrite_sp a v) (s.busWrite_flags a v)

theorem operand_registersBut (o : Src) : RegistersBut l s (operand o s).st :=
  .of_eq (operand_a s o) (operand_x s o) (operand_y s o) (operand_sp s o) (operand_flags s o)

/-! The operations that do change registers or flags, each with the list of what it changes. -/

theorem State.setA_registersBut (v : Byte) : RegistersBut [.a] s (s.setA v) := by
  intro f hf hl
  cases f <;> simp_all [registerFields, agreeOn]

theorem State.setX_registersBut (v : Byte) : RegistersBut [.x] s (s.setX v) := by
  intro f hf hl
  cases f <;> simp_all [registerFields, agreeOn]

theorem State.setY_registersBut (v : Byte) : RegistersBut [.y] s (s.setY v) := by
  intro f hf hl
  cases f <;> simp_all [registerFields, agreeOn]

theorem State.setSp_registersBut (v : Byte) : RegistersBut [.sp] s (s.setSp v) := by
  intro f hf hl
  cases f <;> simp_all [registerFields, agreeOn]

theorem State.setFlags_registersBut (f : Flags) : RegistersBut [.n, .v, .d, .i, .z, .c] s (s.setFlags f) := by
  intro f hf hl
  cases f <;> simp_all [registerFields, agreeOn]

/-- `setNZ` changes N and Z (R34). -/
theorem setNZ_registersBut (r : Byte) : RegistersBut [.n, .z] s (s.setFlags (setNZ r s.flags)) := by
  intro f hf hl
  cases f <;> simp_all [registerFields, agreeOn, setNZ]

/-- Comparisons and shifts change N, Z and C. -/
theorem setNZ_carry_registersBut (r : Byte) (c : Bool) :
    RegistersBut [.n, .z, .c] s (s.setFlags (setNZ r { s.flags with c := c })) := by
  intro f hf hl
  cases f <;> simp_all [registerFields, agreeOn, setNZ]

theorem setC_registersBut (b : Bool) : RegistersBut [.c] s (s.setFlags { s.flags with c := b }) := by
  intro f hf hl
  cases f <;> simp_all [registerFields, agreeOn]

theorem setI_registersBut (b : Bool) : RegistersBut [.i] s (s.setFlags { s.flags with i := b }) := by
  intro f hf hl
  cases f <;> simp_all [registerFields, agreeOn]

theorem setD_registersBut (b : Bool) : RegistersBut [.d] s (s.setFlags { s.flags with d := b }) := by
  intro f hf hl
  cases f <;> simp_all [registerFields, agreeOn]

theorem setV_registersBut (b : Bool) : RegistersBut [.v] s (s.setFlags { s.flags with v := b }) := by
  intro f hf hl
  cases f <;> simp_all [registerFields, agreeOn]

theorem bitA_registersBut (m : Byte) : RegistersBut [.n, .v, .z] s (bitA m s) := by
  intro f hf hl
  cases f <;> simp_all [registerFields, agreeOn, bitA, bitFlags]

theorem loadA_registersBut (m : Byte) : RegistersBut [.a, .n, .z] s (loadA m s) :=
  (State.setA_registersBut m).append (setNZ_registersBut m)

theorem loadX_registersBut (m : Byte) : RegistersBut [.x, .n, .z] s (loadX m s) :=
  (State.setX_registersBut m).append (setNZ_registersBut m)

theorem loadY_registersBut (m : Byte) : RegistersBut [.y, .n, .z] s (loadY m s) :=
  (State.setY_registersBut m).append (setNZ_registersBut m)

theorem applyAlu_registersBut (res : AluResult) : RegistersBut [.a, .n, .v, .z, .c] s (applyAlu res s) := by
  intro f hf hl
  cases f <;> simp_all [registerFields, agreeOn, applyAlu, aluFlags, setNZ]

theorem State.push_registersBut (v : Byte) : RegistersBut [.sp] s (s.push v) :=
  (State.busWrite_registersBut _ _).trans (State.setSp_registersBut _)

theorem State.pushWord_registersBut (w : Word) : RegistersBut [.sp] s (s.pushWord w) :=
  (State.push_registersBut _).trans (State.push_registersBut _)

theorem State.pull_registersBut : RegistersBut [.sp] s s.pull.2 := by
  rw [State.pull_eq]
  exact State.setSp_registersBut _

theorem State.pullWord_registersBut : RegistersBut [.sp] s s.pullWord.2 := by
  rw [State.pullWord_eq]
  exact State.setSp_registersBut _

/-- Taking an exception changes S and I (60_exceptions.md R235). -/
theorem State.enter_registersBut (ret vec : Word) (b : Bool) : RegistersBut [.sp, .i] s (s.enter ret b vec) := by
  intro f hf hl
  cases f <;> simp_all [registerFields, agreeOn, State.enter, State.pushWord]

/-- Returning from one changes S and every flag (42_control_system.md R202). -/
theorem State.leave_registersBut : RegistersBut [.sp, .n, .v, .d, .i, .z, .c] s s.leave := by
  rw [State.leave_eq]
  intro f hf hl
  cases f <;> simp_all [registerFields, agreeOn]

/-! The shapes of meanings: each changes what its own function changes. -/

theorem readOp_registersBut {f : Byte → State → State} (hf : ∀ m u, RegistersBut l u (f m u)) {o : Src}
    (e : readOp f o len base s = .next t) : RegistersBut l s t := by
  cases e
  exact (operand_registersBut o).trans ((hf _ _).trans (State.finish_registersBut _ _))

theorem storeOp_registersBut {reg : State → Byte} {m : MemMode} (e : storeOp reg m len base s = .next t) :
    RegistersBut l s t := by
  cases e
  rw [resolve_st]
  exact (State.busWrite_registersBut _ _).trans (State.finish_registersBut _ _)

section Modify
variable {f : Byte → Flags → Byte × Flags}

theorem stepX_registersBut (hf : ∀ v u, RegistersBut l u (u.setFlags (f v u.flags).2)) :
    RegistersBut (.x :: l) s (stepX f s) :=
  (State.setX_registersBut _).append (hf _ (s.setX _))

theorem stepY_registersBut (hf : ∀ v u, RegistersBut l u (u.setFlags (f v u.flags).2)) :
    RegistersBut (.y :: l) s (stepY f s) :=
  (State.setY_registersBut _).append (hf _ (s.setY _))

theorem modifyAcc_registersBut (e : modifyAcc f len base s = .next t)
    (hf : ∀ v u, RegistersBut l u (u.setFlags (f v u.flags).2)) : RegistersBut (.a :: l) s t := by
  cases e
  exact ((State.setA_registersBut _).append (hf _ (s.setA _))).trans (State.finish_registersBut _ _)

theorem modifyOp_registersBut {m : MemMode} (e : modifyOp f m len base s = .next t)
    (hf : ∀ v u, RegistersBut l u (u.setFlags (f v u.flags).2)) : RegistersBut l s t := by
  cases e
  simp only [resolve_st, State.busRead_snd]
  have hw (r : State) (a : Word) (v v' : Byte) :
      RegistersBut l r ((r.busWrite a v).setFlags (f v' r.flags).2) := by
    rw [← State.busWrite_flags r a v]
    exact (State.busWrite_registersBut a v).trans (hf v' _)
  exact (State.afterRead_registersBut _).trans ((hw _ _ _ _).trans (State.finish_registersBut _ _))

end Modify

theorem impliedOp_registersBut {f : State → State} (hf : ∀ u, RegistersBut l u (f u))
    (e : impliedOp f len base s = .next t) : RegistersBut l s t := by
  cases e
  exact (hf _).trans (State.finish_registersBut _ _)

theorem branchOp_registersBut {cond : State → Bool} {off : Byte} (e : branchOp cond off s = .next t) :
    RegistersBut l s t := by
  unfold branchOp at e
  split_ifs at e <;> cases e <;> exact State.jump_registersBut _ _

/-- Every meaning leaves alone the registers and flags that the table does not let its instruction write. -/
theorem exec_registersBut {i : Instr} (e : exec i s = .next t) : RegistersBut (mayWrite i) s t := by
  cases i with
  | ldaIzx _ | ldaZp _ | ldaImm _ | ldaAbs _ | ldaIzy _ | ldaZpx _ | ldaAbsy _ | ldaAbsx _ | andIzx _ | andZp _
  | andImm _ | andAbs _ | andIzy _ | andZpx _ | andAbsy _ | andAbsx _ | oraIzx _ | oraZp _ | oraImm _
  | oraAbs _ | oraIzy _ | oraZpx _ | oraAbsy _ | oraAbsx _ | eorIzx _ | eorZp _ | eorImm _ | eorAbs _
  | eorIzy _ | eorZpx _ | eorAbsy _ | eorAbsx _ =>
    exact readOp_registersBut (fun _ _ => loadA_registersBut _) e
  | ldxImm _ | ldxZp _ | ldxAbs _ | ldxZpy _ | ldxAbsy _ =>
    exact readOp_registersBut (fun _ _ => loadX_registersBut _) e
  | ldyImm _ | ldyZp _ | ldyAbs _ | ldyZpx _ | ldyAbsx _ =>
    exact readOp_registersBut (fun _ _ => loadY_registersBut _) e
  | staIzx _ | staZp _ | staAbs _ | staIzy _ | staZpx _ | staAbsy _ | staAbsx _ | stxZp _ | stxAbs _ | stxZpy _
  | styZp _ | styAbs _ | styZpx _ =>
    exact storeOp_registersBut e
  | tax | tsx =>
    exact impliedOp_registersBut (fun _ => loadX_registersBut _) e
  | tay =>
    exact impliedOp_registersBut (fun _ => loadY_registersBut _) e
  | txa | tya =>
    exact impliedOp_registersBut (fun _ => loadA_registersBut _) e
  | txs =>
    exact impliedOp_registersBut (fun _ => State.setSp_registersBut _) e
  | pha | php =>
    cases e
    exact (State.push_registersBut _).trans (State.finish_registersBut _ _)
  | pla =>
    cases e
    exact (State.pull_registersBut.append (loadA_registersBut _)).trans (State.finish_registersBut _ _)
  | plp =>
    cases e
    exact (State.pull_registersBut.append (State.setFlags_registersBut _)).trans (State.finish_registersBut _ _)
  | adcIzx _ | adcZp _ | adcImm _ | adcAbs _ | adcIzy _ | adcZpx _ | adcAbsy _ | adcAbsx _ | sbcIzx _ | sbcZp _
  | sbcImm _ | sbcAbs _ | sbcIzy _ | sbcZpx _ | sbcAbsy _ | sbcAbsx _ =>
    exact readOp_registersBut (fun _ _ => applyAlu_registersBut _) e
  | bitZp _ | bitAbs _ =>
    exact readOp_registersBut (fun _ _ => bitA_registersBut _) e
  | cmpIzx _ | cmpZp _ | cmpImm _ | cmpAbs _ | cmpIzy _ | cmpZpx _ | cmpAbsy _ | cmpAbsx _ | cpxImm _ | cpxZp _
  | cpxAbs _ | cpyImm _ | cpyZp _ | cpyAbs _ =>
    exact readOp_registersBut (fun _ _ => setNZ_carry_registersBut _ _) e
  | incZp _ | incAbs _ | incZpx _ | incAbsx _ | decZp _ | decAbs _ | decZpx _ | decAbsx _ =>
    exact modifyOp_registersBut e fun _ _ => setNZ_registersBut _
  | aslZp _ | aslAbs _ | aslZpx _ | aslAbsx _ | lsrZp _ | lsrAbs _ | lsrZpx _ | lsrAbsx _ | rolZp _ | rolAbs _
  | rolZpx _ | rolAbsx _ | rorZp _ | rorAbs _ | rorZpx _ | rorAbsx _ =>
    exact modifyOp_registersBut e fun _ _ => setNZ_carry_registersBut _ _
  | inx | dex =>
    refine impliedOp_registersBut (fun _ => stepX_registersBut ?_) e
    exact fun _ _ => setNZ_registersBut _
  | iny | dey =>
    refine impliedOp_registersBut (fun _ => stepY_registersBut ?_) e
    exact fun _ _ => setNZ_registersBut _
  | aslAcc | lsrAcc | rolAcc | rorAcc =>
    exact modifyAcc_registersBut e fun _ _ => setNZ_carry_registersBut _ _
  | bcc _ | bcs _ | beq _ | bmi _ | bne _ | bpl _ | bvc _ | bvs _ =>
    simp only [exec, execBcc, execBcs, execBeq, execBmi, execBne, execBpl, execBvc, execBvs] at e
    exact branchOp_registersBut e
  | jmpAbs _ =>
    cases e
    exact State.jump_registersBut _ _
  | jmpInd _ =>
    cases e
    exact (State.afterRead_registersBut _).trans ((State.afterRead_registersBut _).trans (State.jump_registersBut _ _))
  | jsrAbs _ =>
    cases e
    exact (State.pushWord_registersBut _).trans (State.jump_registersBut _ _)
  | rts =>
    cases e
    exact State.pullWord_registersBut.trans (State.jump_registersBut _ _)
  | rti =>
    cases e
    exact State.leave_registersBut.trans (State.addCycles_registersBut _)
  | brk =>
    cases e
    exact (State.enter_registersBut _ _ _).trans (State.addCycles_registersBut _)
  | nop =>
    exact impliedOp_registersBut (fun _ => .of_eq rfl rfl rfl rfl rfl) e
  | clc | sec =>
    exact impliedOp_registersBut (fun _ => setC_registersBut _) e
  | cli | sei =>
    exact impliedOp_registersBut (fun _ => setI_registersBut _) e
  | cld | sed =>
    exact impliedOp_registersBut (fun _ => setD_registersBut _) e
  | clv =>
    exact impliedOp_registersBut (fun _ => setV_registersBut _) e

/-- Accumulator mode is the shifts' and rotates' alone (30_encoding.md R93). -/
theorem mnemonic_mem_of_mode_acc {i : Instr} (h : i.mode = .acc) : i.mnemonic ∈ [.asl, .lsr, .rol, .ror] := by
  cases i <;> cases h <;> decide

/-- The table read by register: what an instruction may write, its mnemonic is listed for, or it is A in accumulator
mode. -/
theorem mem_writers_of_mem_mayWrite {i : Instr} {f : Field} (h : f ∈ mayWrite i) :
    i.mnemonic ∈ f.writers ∨ f = .a ∧ i.mode = .acc := by
  unfold mayWrite at h
  split at h
  · rename_i hacc
    rcases List.mem_cons.1 h with rfl | h
    · exact .inr ⟨rfl, hacc⟩
    · exact .inl (mem_writers_of_mem_tableWrites f h)
  · exact .inl (mem_writers_of_mem_tableWrites f h)

/-- A register or flag that an instruction changes is one the table lists its mnemonic for, or A in accumulator mode. -/
theorem mem_writers_of_changed {i : Instr} (e : exec i s = .next t) {f : Field} (hf : f ∈ registerFields)
    (h : ¬ agreeOn s t f) : i.mnemonic ∈ f.writers ∨ f = .a ∧ i.mode = .acc :=
  mem_writers_of_mem_mayWrite (by_contra fun hn => h (exec_registersBut e f hf hn))

/-- The table for every register and flag but A, which accumulator mode has no part in. -/
theorem mem_writers_of_changed_ne_a {i : Instr} (e : exec i s = .next t) (f : Field) (hf : f ∈ registerFields)
    (ha : f ≠ .a) (h : ¬ agreeOn s t f) : i.mnemonic ∈ f.writers :=
  (mem_writers_of_changed e hf h).resolve_right fun h' => ha h'.1

/-- Settles O21: the table, read for each register and flag in turn. -/
theorem registersChangeOnlyAsListed : Obligations.RegistersChangeOnlyAsListed := by
  intro i s t e
  have key := mem_writers_of_changed_ne_a e
  refine ⟨fun h => ?_, key .x (by decide) (by decide), key .y (by decide) (by decide), key .sp (by decide) (by decide),
    key .c (by decide) (by decide), key .v (by decide) (by decide), key .d (by decide) (by decide),
    key .i (by decide) (by decide), ?_⟩
  · rcases mem_writers_of_changed e (f := .a) (by decide) h with h | ⟨-, h⟩
    · exact .inl h
    · exact .inr ⟨mnemonic_mem_of_mode_acc h, h⟩
  · rintro (h | h)
    · exact key .n (by decide) (by decide) h
    · exact key .z (by decide) (by decide) h

end Sys2Proof.Machine
end

section
/-! PROOFS. The status byte: its bits one by one, and what PHP then PLP give back (10_state.md R31, R32, R36). -/

namespace Sys2Proof.Machine

/-- The packed byte's bits, from bit 7 down (R36). -/
theorem packP_bits (b : Bool) (f : Flags) :
    (packP b f).getLsbD 7 = f.n ∧ (packP b f).getLsbD 6 = f.v ∧ (packP b f).getLsbD 5 = true ∧
      (packP b f).getLsbD 4 = b ∧ (packP b f).getLsbD 3 = f.d ∧ (packP b f).getLsbD 2 = f.i ∧
      (packP b f).getLsbD 1 = f.z ∧ (packP b f).getLsbD 0 = f.c := by
  obtain ⟨n, v, d, i, z, c⟩ := f
  revert b n v d i z c
  decide

/-- Unpacking reads six of the packed byte's bits, which are the six flags. -/
theorem unpackP_packP (b : Bool) (f : Flags) : unpackP (packP b f) = f := by
  obtain ⟨hn, hv, -, -, hd, hi, hz, hc⟩ := packP_bits b f
  simp only [unpackP, hn, hv, hd, hi, hz, hc]

/-- Packing what was unpacked keeps six bits and gives bits 5 and 4 anew. -/
theorem packP_unpackP (b : Bool) (v : Byte) :
    packP b (unpackP v) = (v &&& 0xCF#8) ||| 0x20#8 ||| (if b then 0x10#8 else 0x00#8) := by
  obtain ⟨h7, h6, h5, h4, h3, h2, h1, h0⟩ := packP_bits b (unpackP v)
  apply BitVec.eq_of_getLsbD_eq
  intro k hk
  rw [BitVec.getLsbD_or, BitVec.getLsbD_or, BitVec.getLsbD_and]
  interval_cases k <;> simp only [h7, h6, h5, h4, h3, h2, h1, h0] <;> cases b <;> simp [unpackP]

/-- PLP pulls the byte at S + 1 into the flags (40_load_store_transfer.md R136). -/
theorem execPlp_eq (s : State) :
    exec .plp s =
      .next (((s.setSp (s.sp + 1#8)).setFlags (unpackP (s.ramByte (stackAddr (s.sp + 1#8))))).finish 1 4) := by
  simp only [exec, execPlp, State.pull_eq]

/-- Settles O42: PLP after PHP finds S one lower and the packed flags above it. -/
theorem statusByteRoundTrip : Obligations.StatusByteRoundTrip := by
  refine ⟨fun f b v => ?_, fun s t u hram ht hu => ?_⟩
  · obtain ⟨-, -, h5, h4, -⟩ := packP_bits b f
    exact ⟨unpackP_packP b f, h5, h4, packP_unpackP b v⟩
  · cases ht
    have hsp : s.sp - 1#8 + 1#8 = s.sp := BitVec.sub_add_cancel _ _
    have hbyte := s.push_ramByte_eq (packP true s.flags) hram
    rw [execPlp_eq] at hu
    cases hu
    refine ⟨?_, hsp⟩
    change unpackP ((s.push (packP true s.flags)).ramByte (stackAddr (s.sp - 1#8 + 1#8))) = s.flags
    rw [hsp, hbyte, unpackP_packP]

end Sys2Proof.Machine
end

section
/-! PROOFS. The memory map: the conditions of R54 and R59 as one predicate, and that the region function answers exactly
by it (20_memory.md R53, R54, R59). -/

namespace Sys2Proof.Machine

/-- The addresses and bank settings at which an access reaches a region, read off R54; for RAM, off R54 and R59. -/
def Region.Reached (a : Word) (loram hiram charen : Bool) : Region → Prop
  | .basicRom => 0xA000 ≤ a.toNat ∧ a.toNat ≤ 0xBFFF ∧ loram = true ∧ hiram = true
  | .kernalRom => 0xE000 ≤ a.toNat ∧ hiram = true
  | .charRom => 0xD000 ≤ a.toNat ∧ a.toNat ≤ 0xDFFF ∧ charen = false ∧ (loram = true ∨ hiram = true)
  | .video => 0xD000 ≤ a.toNat ∧ a.toNat ≤ 0xD3FF ∧ charen = true ∧ (loram = true ∨ hiram = true)
  | .timer0 => 0xDC00 ≤ a.toNat ∧ a.toNat ≤ 0xDCFF ∧ charen = true ∧ (loram = true ∨ hiram = true)
  | .timer1 => 0xDD00 ≤ a.toNat ∧ a.toNat ≤ 0xDDFF ∧ charen = true ∧ (loram = true ∨ hiram = true)
  | .ram =>
    (a.toNat ≤ 0x9FFF ∨ 0xC000 ≤ a.toNat ∧ a.toNat ≤ 0xCFFF) ∨
    ((0xD400 ≤ a.toNat ∧ a.toNat ≤ 0xDBFF ∨ 0xDE00 ≤ a.toNat ∧ a.toNat ≤ 0xDFFF) ∧ charen = true) ∨
    (0xA000 ≤ a.toNat ∧ a.toNat ≤ 0xBFFF ∧ ¬(loram = true ∧ hiram = true)) ∨
    (0xE000 ≤ a.toNat ∧ hiram = false) ∨
    (loram = false ∧ hiram = false)

variable {a : Word} {loram hiram charen : Bool}

/-- What the region function answers is reached there: branch by branch of R54. -/
theorem reached_region : (region a loram hiram charen).Reached a loram hiram charen := by
  unfold region
  split_ifs with hbasic hkernal hio hchar hvideo htimer0 htimer1
  · exact hbasic
  · exact hkernal
  · exact ⟨hio.1, hio.2.1, hchar, hio.2.2⟩
  · exact ⟨hio.1, hvideo, Bool.eq_true_of_not_eq_false hchar, hio.2.2⟩
  · exact ⟨htimer0.1, htimer0.2, Bool.eq_true_of_not_eq_false hchar, hio.2.2⟩
  · exact ⟨htimer1.1, htimer1.2, Bool.eq_true_of_not_eq_false hchar, hio.2.2⟩
  · exact .inr (.inl ⟨by omega, Bool.eq_true_of_not_eq_false hchar⟩)
  · -- No branch applied, so each range of R54 that holds `a` is banked out.
    simp only [Region.Reached]
    grind

/-- Where a region is reached, the region function answers it: each condition picks its branch of R54. -/
theorem region_of_reached {r : Region} (h : r.Reached a loram hiram charen) : region a loram hiram charen = r := by
  unfold region
  cases r with
  | basicRom => exact if_pos h
  | kernalRom =>
    obtain ⟨hlo, hhiram⟩ := h
    rw [if_neg (by omega), if_pos ⟨hlo, hhiram⟩]
  | charRom =>
    obtain ⟨hlo, hhi, hchar, hbank⟩ := h
    rw [if_neg (by omega), if_neg (by omega), if_pos ⟨hlo, hhi, hbank⟩, if_pos hchar]
  | video =>
    obtain ⟨hlo, hhi, hchar, hbank⟩ := h
    rw [if_neg (by omega), if_neg (by omega), if_pos ⟨hlo, by omega, hbank⟩, if_neg (by simp [hchar]), if_pos hhi]
  | timer0 =>
    obtain ⟨hlo, hhi, hchar, hbank⟩ := h
    rw [if_neg (by omega), if_neg (by omega), if_pos ⟨by omega, by omega, hbank⟩, if_neg (by simp [hchar]),
      if_neg (by omega), if_pos ⟨hlo, hhi⟩]
  | timer1 =>
    obtain ⟨hlo, hhi, hchar, hbank⟩ := h
    rw [if_neg (by omega), if_neg (by omega), if_pos ⟨by omega, by omega, hbank⟩, if_neg (by simp [hchar]),
      if_neg (by omega), if_neg (by omega), if_pos ⟨hlo, hhi⟩]
  | ram =>
    obtain hrange | ⟨hrange, hchar⟩ | ⟨hlo, hhi, hbank⟩ | ⟨hlo, hhiram⟩ | ⟨hloram, hhiram⟩ := h
    · rw [if_neg (by omega), if_neg (by omega), if_neg (by omega)]
    · rw [if_neg (by omega), if_neg (by omega), ite_eq_right_iff]
      intro _
      rw [if_neg (by simp [hchar]), if_neg (by omega), if_neg (by omega), if_neg (by omega)]
    · rw [if_neg fun h => hbank h.2.2, if_neg (by omega), if_neg (by omega)]
    · rw [if_neg (by omega), if_neg (by simp [hhiram]), if_neg (by omega)]
    · rw [if_neg (by simp [hloram]), if_neg (by simp [hhiram]), if_neg (by simp [hloram, hhiram])]

/-- The region function answers a region exactly where it is reached. -/
theorem region_eq_iff {r : Region} : region a loram hiram charen = r ↔ r.Reached a loram hiram charen :=
  ⟨fun h => h ▸ reached_region, region_of_reached⟩

/-- Settles O22: R54's condition of each region, and R59's five ways to reach RAM. -/
theorem memoryMap : Obligations.MemoryMap := fun _ _ _ _ =>
  ⟨region_eq_iff, region_eq_iff, region_eq_iff, region_eq_iff, region_eq_iff, region_eq_iff,
    fun h => region_eq_iff.2 (.inl h),
    fun h hc => region_eq_iff.2 (.inr (.inl ⟨h, hc⟩)),
    fun h h' hb => region_eq_iff.2 (.inr (.inr (.inl ⟨h, h', hb⟩))),
    fun h hh => region_eq_iff.2 (.inr (.inr (.inr (.inl ⟨h, hh⟩)))),
    fun hl hh => region_eq_iff.2 (.inr (.inr (.inr (.inr ⟨hl, hh⟩))))⟩

/-- Settles O25: $0001 is RAM in every bank setting, and the bank bits are read from it anew at each access. -/
theorem bankBitsTakeEffectAtOnce : Obligations.BankBitsTakeEffectAtOnce := by
  intro s v a hram
  have hport : s.regionOf 0x0001#16 = .ram := region_low (by decide) _ _ _
  have hbyte := s.busWrite_ramByte_eq 0x0001#16 v hram hport
  refine ⟨hbyte, ?_⟩
  simp only [State.regionOf, State.loram, State.hiram, State.charen, hbyte]

end Sys2Proof.Machine
end

section
/-! PROOFS. One bus access: which piece of the machine each region is, that an access touches no other, and what a read
returns (20_memory.md R56 to R58, R63). -/

namespace Sys2Proof.Machine

/-- What an access to the region can change: RAM or the chip; a ROM never. -/
def Region.fields : Region → List Field
  | .ram => [.ram]
  | .basicRom | .kernalRom | .charRom => []
  | .video => [.video]
  | .timer0 => [.timer0]
  | .timer1 => [.timer1]

variable {s t : State} {a : Word} {l l' : List Field}

/-- A frame gets narrower by what is known to agree of the pieces it left open. -/
theorem AgreeExcept.narrow (h : AgreeExcept l s t) (hl : ∀ f ∈ l, f ∉ l' → agreeOn s t f) : AgreeExcept l' s t := by
  intro f hf
  by_cases hm : f ∈ l
  · exact hl f hm hf
  · exact h f hm

/-- A piece outside the frame of an access belongs to a region the access does not reach. -/
theorem Region.ne_of_notMem {r r' : Region} {f g : Field} (hf : f ∈ r'.fields) (h : f ∉ r.fields ++ [g]) : r ≠ r' := by
  rintro rfl
  exact h (List.mem_append_left _ hf)

/-- A read that does not reach timer 0 leaves it as it was, and so for the other chips (20_memory.md R63). -/
theorem State.afterRead_timer0_of_ne (hr : s.regionOf a ≠ .timer0) : (s.afterRead a).timer0 = s.timer0 := by
  unfold State.afterRead
  split <;> simp_all

theorem State.afterRead_timer1_of_ne (hr : s.regionOf a ≠ .timer1) : (s.afterRead a).timer1 = s.timer1 := by
  unfold State.afterRead
  split <;> simp_all

theorem State.afterRead_video_of_ne (hr : s.regionOf a ≠ .video) : (s.afterRead a).video = s.video := by
  unfold State.afterRead
  split <;> simp_all

/-- A read changes what it reaches and the draw index at most. -/
theorem State.afterRead_frame_region (s : State) (a : Word) :
    AgreeExcept ((s.regionOf a).fields ++ [.drawIndex]) s (s.afterRead a) := by
  refine (s.afterRead_frame a).narrow fun f hf hn => ?_
  simp only [List.mem_cons, List.not_mem_nil, or_false] at hf
  rcases hf with rfl | rfl | rfl | rfl
  · exact State.afterRead_timer0_of_ne (Region.ne_of_notMem (.head _) hn)
  · exact State.afterRead_timer1_of_ne (Region.ne_of_notMem (.head _) hn)
  · exact State.afterRead_video_of_ne (Region.ne_of_notMem (.head _) hn)
  · simp at hn

/-- A write changes what it reaches and the record of writes at most. -/
theorem State.busWrite_frame_region (s : State) (a : Word) (v : Byte) :
    AgreeExcept ((s.regionOf a).fields ++ [.busWrites]) s (s.busWrite a v) := by
  refine (s.busWrite_frame a v).narrow fun f hf hn => ?_
  simp only [List.mem_cons, List.not_mem_nil, or_false] at hf
  rcases hf with rfl | rfl | rfl | rfl | rfl
  · exact fun w => State.ramByte_congr (s.busWrite_ram_of_ne a v (Region.ne_of_notMem (.head _) hn))
  · exact s.busWrite_timer0_of_ne a v (Region.ne_of_notMem (.head _) hn)
  · exact s.busWrite_timer1_of_ne a v (Region.ne_of_notMem (.head _) hn)
  · exact s.busWrite_video_of_ne a v (Region.ne_of_notMem (.head _) hn)
  · simp at hn

theorem timerOff_eq_ofNat (a : Word) : timerOff a = BitVec.ofNat 4 (a.toNat % 16) :=
  BitVec.eq_of_toNat_eq (by simp)

theorem videoOff_eq_ofNat (a : Word) : videoOff a = BitVec.ofNat 6 (a.toNat % 64) :=
  BitVec.eq_of_toNat_eq (by simp)

/-- A read of RAM or ROM returns the byte there and leaves the machine as it was. -/
theorem State.busRead_of_not_isChip (h : s.isChip a = false) : s.busRead a = (s.peek a, s) :=
  congrArg (Prod.mk _) (s.afterRead_of_not_isChip a h)

/-- Settles O23: in RAM and ROM by what a read without effect returns, in a window by the frame of the access. -/
theorem busReads : Obligations.BusReads := by
  intro s a
  have hplain := State.busRead_of_not_isChip (s := s) (a := a)
  have hframe := s.afterRead_frame_region a
  simp only [State.isChip, State.peek] at hplain
  simp only [State.busRead_fst, State.busRead_snd, State.peek, ← timerOff_eq_ofNat, ← videoOff_eq_ofNat]
  cases hr : s.regionOf a <;> rw [hr] at hplain hframe
  case ram | basicRom | kernalRom | charRom => exact hplain rfl
  case video | timer0 | timer1 => exact ⟨rfl, hframe⟩

/-- Settles O24: by the frame of the access, and what it reaches takes the byte. -/
theorem busWrites : Obligations.BusWrites := by
  intro s a v hram
  refine ⟨s.busWrite_busWrites a v, ?_⟩
  have hframe := s.busWrite_frame_region a v
  simp only [← timerOff_eq_ofNat, ← videoOff_eq_ofNat]
  cases hr : s.regionOf a <;> rw [hr] at hframe
  case ram => exact ⟨s.busWrite_ramByte_eq a v hram hr, s.busWrite_sameRamBut a v, hframe⟩
  case basicRom | kernalRom | charRom => exact hframe
  case video | timer0 | timer1 =>
    refine ⟨?_, hframe⟩
    simp only [State.busWrite, hr]
    rfl

end Sys2Proof.Machine
end

section
/-! PROOFS. The decoder and the encoder against each other: what an entry of the opcode map says of the bytes after its
opcode, that the map's entries and the instructions' encodings agree both ways, and what follows for the bytes the
decoder takes, rejects or misses (30_encoding.md R90, R106, R107, R109). -/

namespace Sys2Proof

/-- How many operand bytes an entry of the opcode map takes (R90). -/
def OpShape.operandCount : OpShape → Nat
  | .implied _ => 0
  | .byte _ => 1
  | .word _ => 2

/-- The map's entry makes the instruction `i` of these operand bytes, a word's low byte first (R60, R90). -/
def OpShape.Builds : OpShape → List Byte → Instr → Prop
  | .implied j, operands, i => operands = [] ∧ i = j
  | .byte mk, operands, i => ∃ b, operands = [b] ∧ i = mk b
  | .word mk, operands, i => ∃ w, operands = wordBytes w ∧ i = mk w

variable {op : Byte} {sh : OpShape} {i : Instr} {bytes operands rest : List Byte}

theorem OpShape.Builds.length_operands (h : sh.Builds operands i) : operands.length = sh.operandCount := by
  cases sh with
  | implied j =>
    obtain ⟨rfl, -⟩ := h
    rfl
  | byte mk | word mk =>
    obtain ⟨_, rfl, -⟩ := h
    rfl

/-- As many bytes as an entry takes are the operand of some instruction. -/
theorem OpShape.exists_builds (h : operands.length = sh.operandCount) : ∃ i, sh.Builds operands i := by
  cases sh with
  | implied j => exact ⟨j, List.eq_nil_of_length_eq_zero h, rfl⟩
  | byte mk =>
    obtain ⟨b, rfl⟩ := List.length_eq_one_iff.1 h
    exact ⟨mk b, b, rfl, rfl⟩
  | word mk =>
    obtain ⟨lo, hi, rfl⟩ := List.length_eq_two.1 h
    exact ⟨mk (wordOf hi lo), wordOf hi lo, by simp [wordBytes], rfl⟩

/-! The decoder, said once: it takes the operand bytes that the opcode's entry asks for. -/

theorem decode_of_opcodeShape_eq_none (h : opcodeShape op = none) : decode (op :: rest) = .error (.illegalOpcode op) := by
  simp only [decode, h]

theorem decode_of_builds (h : opcodeShape op = some sh) (hb : sh.Builds operands i) :
    decode (op :: (operands ++ rest)) = .ok (i, rest) := by
  cases sh with
  | implied j =>
    obtain ⟨rfl, rfl⟩ := hb
    simp [decode, h]
  | byte mk =>
    obtain ⟨b, rfl, rfl⟩ := hb
    simp [decode, h]
  | word mk =>
    obtain ⟨w, rfl, rfl⟩ := hb
    simp [decode, h, wordBytes]

theorem decode_of_length_lt (h : opcodeShape op = some sh) (hlen : rest.length < sh.operandCount) :
    decode (op :: rest) = .error (.truncated op) := by
  cases sh with
  | implied j => exact absurd hlen (Nat.not_lt_zero _)
  | byte mk =>
    obtain rfl := List.length_eq_zero_iff.1 (Nat.lt_one_iff.1 hlen)
    simp only [decode, h]
  | word mk =>
    match rest, hlen with
    | [], _ | [_], _ => simp only [decode, h]

/-- Enough bytes after a legal opcode are its operand and a rest. -/
theorem decode_of_length_le (h : opcodeShape op = some sh) (hlen : sh.operandCount ≤ rest.length) :
    ∃ i, sh.Builds (rest.take sh.operandCount) i ∧ decode (op :: rest) = .ok (i, rest.drop sh.operandCount) := by
  obtain ⟨i, hi⟩ := OpShape.exists_builds (sh := sh) (List.length_take_of_le hlen)
  refine ⟨i, hi, ?_⟩
  have hd := decode_of_builds (rest := rest.drop sh.operandCount) h hi
  rwa [List.take_append_drop] at hd

/-- The only way to decode is by an entry of the map and the operand bytes it asks for. -/
theorem exists_builds_of_decode (e : decode bytes = .ok (i, rest)) :
    ∃ op sh operands, opcodeShape op = some sh ∧ sh.Builds operands i ∧ bytes = op :: (operands ++ rest) := by
  cases bytes with
  | nil => cases e
  | cons op tail =>
    cases h : opcodeShape op with
    | none =>
      rw [decode_of_opcodeShape_eq_none h] at e
      cases e
    | some sh =>
      rcases Nat.lt_or_ge tail.length sh.operandCount with hlen | hlen
      · rw [decode_of_length_lt h hlen] at e
        cases e
      · obtain ⟨j, hj, hd⟩ := decode_of_length_le h hlen
        obtain ⟨rfl, rfl⟩ := Prod.mk.inj (Except.ok.inj (hd.symm.trans e))
        exact ⟨op, sh, _, h, hj, by rw [List.take_append_drop]⟩

/-! The map against the instructions: every instruction is built by the entry at its opcode, and what an entry builds is
encoded by that entry's opcode and operand bytes. -/

theorem exists_builds_mode_bytes (i : Instr) : ∃ sh, opcodeShape i.opcode = some sh ∧ sh.Builds i.mode.bytes i := by
  cases i with
  | tax | tay | txa | tya | tsx | txs | pha | php | pla | plp | inx | iny | dex | dey | aslAcc | lsrAcc | rolAcc
  | rorAcc | rts | rti | brk | nop | clc | sec | cli | sei | cld | sed | clv =>
    dsimp only [Instr.opcode]
    exact ⟨_, rfl, rfl, rfl⟩
  | _ operand =>
    dsimp only [Instr.opcode]
    exact ⟨_, rfl, operand, rfl, rfl⟩

/-- Whatever operand the entry is given, the instruction it makes is encoded as `op` and that operand. -/
def OpShape.EncodedAt (op : Byte) : OpShape → Prop
  | .implied i => encode i = [op]
  | .byte mk => ∀ b, encode (mk b) = [op, b]
  | .word mk => ∀ w, encode (mk w) = op :: wordBytes w

theorem encodedAt_of_mem_opcodeMap : ∀ entry ∈ opcodeMap, entry.2.EncodedAt entry.1 := by
  simp only [opcodeMap, opcodeRow0, opcodeRow1, opcodeRow2, opcodeRow3, opcodeRow4, opcodeRow5, opcodeRow6, opcodeRow7,
    opcodeRow8, opcodeRow9, opcodeRowA, opcodeRowB, opcodeRowC, opcodeRowD, opcodeRowE, opcodeRowF,
    List.forall_mem_append, List.forall_mem_cons, List.not_mem_nil, false_imp_iff, implies_true, and_true,
    OpShape.EncodedAt]
  and_intros <;> intros <;> rfl

theorem encode_of_builds (h : opcodeShape op = some sh) (hb : sh.Builds operands i) : encode i = op :: operands := by
  obtain ⟨before, after, hmap, -⟩ := List.lookup_eq_some_iff.1 h
  have henc : sh.EncodedAt op := encodedAt_of_mem_opcodeMap (op, sh) (by rw [hmap]; simp)
  cases sh with
  | implied j =>
    obtain ⟨rfl, rfl⟩ := hb
    exact henc
  | byte mk | word mk =>
    obtain ⟨_, rfl, rfl⟩ := hb
    exact henc _

/-! The map against WellFormed.lean's lists, which are written apart from it. -/

theorem opcodeShape_eq_none_iff : opcodeShape op = none ↔ op ∈ illegalOpcodes := by
  rw [← Option.isNone_iff_eq_none, opcodeShape_isNone, List.contains_iff_mem]

theorem exists_opcodeShape_of_notMem (h : op ∉ illegalOpcodes) : ∃ sh, opcodeShape op = some sh :=
  Option.ne_none_iff_exists'.1 (mt opcodeShape_eq_none_iff.1 h)

/-- The lists of R90 give each legal opcode as many operand bytes as the map does. -/
theorem operandCount_of_opcodeShape (h : opcodeShape op = some sh) : operandCount op = sh.operandCount := by
  have hall : ∀ op : Byte, (opcodeShape op).all (fun sh => operandCount op == sh.operandCount) = true := by
    decide +kernel
  simpa [h] using hall op

theorem Instr.wf_eq_true (i : Instr) : i.wf = true := by
  obtain ⟨sh, h, hb⟩ := exists_builds_mode_bytes i
  have hlegal : i.opcode ∉ illegalOpcodes := by
    rw [← opcodeShape_eq_none_iff, h]
    exact Option.some_ne_none sh
  simp [Instr.wf, encode, wfBytes, hlegal, operandCount_of_opcodeShape h, hb.length_operands]

/-- Settles O2: the map's entry at an instruction's opcode builds it of its operand bytes, and the decoder follows the
entry. -/
theorem decodeReadsBackEncode : Obligations.DecodeReadsBackEncode := by
  intro i rest
  obtain ⟨sh, h, hb⟩ := exists_builds_mode_bytes i
  exact ⟨i.wf_eq_true, decode_of_builds h hb⟩

/-- Settles O3: what was decoded was built by an entry of the map, and is encoded as that entry's opcode and operand. -/
theorem encodeReadsBackDecode : Obligations.EncodeReadsBackDecode := by
  intro bytes rest i e
  obtain ⟨op, sh, operands, h, hb, rfl⟩ := exists_builds_of_decode e
  rw [encode_of_builds h hb, List.cons_append]

/-- Settles O4: an opcode outside R107's list has an entry in the map, which takes the operand bytes R90 counts. -/
theorem illegalOpcodesAreThoseListed : Obligations.IllegalOpcodesAreThoseListed := by
  refine ⟨rfl, fun op rest => ⟨fun hop => ?_, fun hop hlen => ?_, fun hop hlen => ?_⟩⟩
  · exact decode_of_opcodeShape_eq_none (opcodeShape_eq_none_iff.2 hop)
  · obtain ⟨sh, h⟩ := exists_opcodeShape_of_notMem hop
    rw [operandCount_of_opcodeShape h] at hlen ⊢
    obtain ⟨i, hb, hd⟩ := decode_of_length_le h hlen
    exact ⟨i, hd, (List.cons.inj (encode_of_builds h hb)).1⟩
  · obtain ⟨sh, h⟩ := exists_opcodeShape_of_notMem hop
    rw [operandCount_of_opcodeShape h] at hlen
    exact decode_of_length_lt h hlen

/-- Settles O1: the twelve byte sequences, decoded. -/
theorem specWordsDecode : Obligations.SpecWordsDecode :=
  ⟨rfl, rfl, rfl, rfl, rfl, rfl, rfl, rfl, rfl, rfl, rfl, rfl⟩

end Sys2Proof
end

section
/-! PROOFS. The halt at an illegal opcode: the fetch reads that one byte, and the step answers the halt without cycles
(30_encoding.md R107, R109; 60_exceptions.md R239). -/

namespace Sys2Proof.Machine

variable {s : State}

/-- An illegal opcode is read alone (30_encoding.md R109). -/
theorem State.fetch_of_illegal (h : s.peek s.pc ∈ illegalOpcodes) :
    s.fetch = .illegal (s.peek s.pc) (s.afterRead s.pc) := by
  simp only [State.fetch, State.busRead, opcodeShape_eq_none_iff.2 h]

theorem State.interruptEntry_of_not_takes (hn : s.takesNmi = false) (hi : s.takesIrq = false) :
    s.interruptEntry = none := by
  simp [State.interruptEntry, hn, hi]

theorem step_of_illegal (hrun : s.run = .running) (hn : s.takesNmi = false) (hi : s.takesIrq = false)
    (h : s.peek s.pc ∈ illegalOpcodes) :
    step s = .next ((s.beginStep.afterRead s.pc).halt (s.peek s.pc)) := by
  have hentry : s.beginStep.interruptEntry = none := State.interruptEntry_of_not_takes hn hi
  have hfetch := State.fetch_of_illegal (s := s.beginStep) h
  rw [step_of_running s hrun, hentry, hfetch]
  rfl

/-- Emptying the write list and a read do not see each other. -/
theorem State.beginStep_afterRead (s : State) (a : Word) : s.beginStep.afterRead a = (s.afterRead a).beginStep := by
  have hr : s.beginStep.regionOf a = s.regionOf a := rfl
  unfold State.afterRead
  rw [hr]
  cases s.regionOf a with
  | ram | basicRom | kernalRom | charRom => rfl
  | video => dsimp only; cases Video.draws (videoOff a) <;> rfl
  | timer0 | timer1 => dsimp only; cases Timer.draws (timerOff a) <;> rfl

theorem State.beginStep_halt_frame (s : State) (op : Byte) : AgreeExcept [.run, .busWrites] s (s.beginStep.halt op) := by
  intro f hf
  cases f <;> simp_all [agreeOn, State.ramByte]

/-- Settles O7: the step halts the machine as the fetch's one read leaves it. -/
theorem illegalOpcodeHalts : Obligations.IllegalOpcodeHalts := by
  intro s hrun hn hi h
  refine ⟨_, step_of_illegal hrun hn hi h, by simp, by simp, ?_⟩
  rw [State.beginStep_afterRead]
  exact State.beginStep_halt_frame _ _

end Sys2Proof.Machine
end

section
/-! PROOFS. The cycles of a step: each shape of meaning counts its base cycles and its extras, an interrupt entry 7, a
halt none (30_encoding.md R110 to R113; 60_exceptions.md R236, R239). -/

namespace Sys2Proof.Machine

variable {s t : State} {len base : Nat}

/-- From `s` to `t` 2 to 7 cycles were counted (30_encoding.md R110). -/
def CyclesInBounds (s t : State) : Prop := s.cycles + 2 ≤ t.cycles ∧ t.cycles ≤ s.cycles + 7

theorem CyclesInBounds.of_eq {c : Nat} (h : t.cycles = s.cycles + c) (hlo : 2 ≤ c) (hhi : c ≤ 7) :
    CyclesInBounds s t := by
  constructor <;> omega

/-- A read has at most the one extra cycle of a page crossing (R111). -/
theorem readOp_cyclesInBounds {f : Byte → State → State} {o : Src} (e : readOp f o len base s = .next t)
    (hf : ∀ m u, (f m u).cycles = u.cycles) (hlo : 2 ≤ base) (hhi : base ≤ 6) : CyclesInBounds s t := by
  cases e
  have hcross := operand_cross_le s o
  exact .of_eq (by rw [State.finish_cycles, hf, operand_cycles]) (by omega) (by omega)

theorem storeOp_cyclesInBounds {reg : State → Byte} {m : MemMode} (e : storeOp reg m len base s = .next t)
    (hlo : 2 ≤ base) (hhi : base ≤ 7) : CyclesInBounds s t := by
  cases e
  exact .of_eq (by simp) hlo hhi

theorem modifyOp_cyclesInBounds {f : Byte → Flags → Byte × Flags} {m : MemMode}
    (e : modifyOp f m len base s = .next t) (hlo : 2 ≤ base) (hhi : base ≤ 7) : CyclesInBounds s t := by
  cases e
  exact .of_eq (by simp) hlo hhi

/-- A branch counts 2 cycles, 3 where it is taken, 4 where the target lies on another page (R112). -/
theorem branchOp_cyclesInBounds {cond : State → Bool} {off : Byte} (e : branchOp cond off s = .next t) :
    CyclesInBounds s t := by
  unfold branchOp at e
  split_ifs at e <;> cases e
  · have hcross := Bool.toNat_le (crosses (s.pc + 2#16 + sext16 off) (s.pc + 2#16))
    exact .of_eq (State.jump_cycles _ _ _) (by omega) (by omega)
  · exact .of_eq (State.jump_cycles _ _ _) (by omega) (by omega)

@[simp] theorem applyAlu_cycles (res : AluResult) (s : State) : (applyAlu res s).cycles = s.cycles := by
  simp [applyAlu]

@[simp] theorem State.enter_cycles (s : State) (ret vec : Word) (b : Bool) : (s.enter ret b vec).cycles = s.cycles := by
  simp [State.enter, State.pushWord]

@[simp] theorem State.leave_cycles (s : State) : s.leave.cycles = s.cycles := by
  simp [State.leave_eq]

/-- Every instruction counts 2 to 7 cycles (30_encoding.md R110 to R113). -/
theorem exec_cyclesInBounds {i : Instr} (e : exec i s = .next t) : CyclesInBounds s t := by
  cases i with
  | ldaIzx _ | ldaZp _ | ldaImm _ | ldaAbs _ | ldaIzy _ | ldaZpx _ | ldaAbsy _ | ldaAbsx _ | andIzx _ | andZp _
  | andImm _ | andAbs _ | andIzy _ | andZpx _ | andAbsy _ | andAbsx _ | oraIzx _ | oraZp _ | oraImm _
  | oraAbs _ | oraIzy _ | oraZpx _ | oraAbsy _ | oraAbsx _ | eorIzx _ | eorZp _ | eorImm _ | eorAbs _
  | eorIzy _ | eorZpx _ | eorAbsy _ | eorAbsx _ | ldxImm _ | ldxZp _ | ldxAbs _ | ldxZpy _ | ldxAbsy _ | ldyImm _
  | ldyZp _ | ldyAbs _ | ldyZpx _ | ldyAbsx _ | bitZp _ | bitAbs _ | cmpIzx _ | cmpZp _ | cmpImm _ | cmpAbs _
  | cmpIzy _ | cmpZpx _ | cmpAbsy _ | cmpAbsx _ | cpxImm _ | cpxZp _ | cpxAbs _ | cpyImm _ | cpyZp _ | cpyAbs _ =>
    exact readOp_cyclesInBounds e (fun _ _ => rfl) (by decide) (by decide)
  | adcIzx _ | adcZp _ | adcImm _ | adcAbs _ | adcIzy _ | adcZpx _ | adcAbsy _ | adcAbsx _ | sbcIzx _ | sbcZp _
  | sbcImm _ | sbcAbs _ | sbcIzy _ | sbcZpx _ | sbcAbsy _ | sbcAbsx _ =>
    exact readOp_cyclesInBounds e (fun _ _ => applyAlu_cycles _ _) (by decide) (by decide)
  | staIzx _ | staZp _ | staAbs _ | staIzy _ | staZpx _ | staAbsy _ | staAbsx _ | stxZp _ | stxAbs _ | stxZpy _
  | styZp _ | styAbs _ | styZpx _ =>
    exact storeOp_cyclesInBounds e (by decide) (by decide)
  | incZp _ | incAbs _ | incZpx _ | incAbsx _ | decZp _ | decAbs _ | decZpx _ | decAbsx _ | aslZp _ | aslAbs _
  | aslZpx _ | aslAbsx _ | lsrZp _ | lsrAbs _ | lsrZpx _ | lsrAbsx _ | rolZp _ | rolAbs _ | rolZpx _
  | rolAbsx _ | rorZp _ | rorAbs _ | rorZpx _ | rorAbsx _ =>
    exact modifyOp_cyclesInBounds e (by decide) (by decide)
  | tax | tay | txa | tya | tsx | txs | inx | iny | dex | dey | nop | clc | sec | cli | sei | cld | sed | clv | aslAcc
  | lsrAcc | rolAcc | rorAcc =>
    cases e
    exact .of_eq (c := 2) rfl (by decide) (by decide)
  | bcc _ | bcs _ | beq _ | bmi _ | bne _ | bpl _ | bvc _ | bvs _ =>
    simp only [exec, execBcc, execBcs, execBeq, execBmi, execBne, execBpl, execBvc, execBvs] at e
    exact branchOp_cyclesInBounds e
  | pha | php =>
    cases e
    exact .of_eq (c := 3) (by simp) (by decide) (by decide)
  | pla | plp =>
    cases e
    exact .of_eq (c := 4) (by simp [loadA, State.pull_eq]) (by decide) (by decide)
  | jmpAbs _ =>
    cases e
    exact .of_eq (c := 3) rfl (by decide) (by decide)
  | jmpInd _ =>
    cases e
    exact .of_eq (c := 5) (by simp [State.readIndirect]) (by decide) (by decide)
  | jsrAbs _ =>
    cases e
    exact .of_eq (c := 6) (by simp [State.pushWord]) (by decide) (by decide)
  | rts =>
    cases e
    exact .of_eq (c := 6) (by simp [State.pullWord_eq]) (by decide) (by decide)
  | rti =>
    cases e
    exact .of_eq (c := 6) (by simp) (by decide) (by decide)
  | brk =>
    cases e
    exact .of_eq (c := 7) (by simp) (by decide) (by decide)

/-- An interrupt entry counts 7 cycles (60_exceptions.md R236). -/
theorem State.interruptEntry_cycles (e : s.interruptEntry = some t) : t.cycles = s.cycles + entryCycles := by
  unfold State.interruptEntry at e
  split_ifs at e <;> cases e <;> simp

/-- A fetch counts no cycles of its own. -/
theorem State.fetch_illegal_cycles {op : Byte} (e : s.fetch = .illegal op t) : t.cycles = s.cycles := by
  simp only [State.fetch] at e
  split at e <;> cases e
  simp

theorem State.fetch_instr_cycles {i : Instr} (e : s.fetch = .instr i t) : t.cycles = s.cycles := by
  simp only [State.fetch] at e
  split at e <;> cases e <;> simp

/-- A running machine's step: an interrupt entry and an instruction count their cycles and leave it running, a halt
counts none. -/
theorem stepRunning_cycles (hrun : s.run = .running) (e : stepRunning s = .next t) :
    (t.run ≠ .running ∧ t.cycles = s.cycles) ∨ (t.run = .running ∧ CyclesInBounds s t) := by
  unfold stepRunning at e
  split at e
  · rename_i u hu
    cases e
    have hr := keptByOps_run.interruptEntry (fun _ => rfl) hu
    refine .inr ⟨?_, .of_eq (c := entryCycles) ?_ (by decide) (by decide)⟩
    · simp [State.endStep, hr, hrun]
    · simp [State.endStep, State.interruptEntry_cycles hu]
  · split at e
    · rename_i op u hu
      cases e
      exact .inl ⟨by simp, (u.halt_cycles op).trans (State.fetch_illegal_cycles hu)⟩
    · rename_i i u hu
      unfold runInstr at e
      split at e <;> cases e
      rename_i v hv
      have hr := (keptByOps_run.exec hv).trans (keptByOps_run.fetch_instr hu)
      have hc := exec_cyclesInBounds hv
      rw [CyclesInBounds, State.fetch_instr_cycles hu] at hc
      refine .inr ⟨?_, ?_⟩
      · simp [State.endStep, hr, hrun]
      · simpa [State.endStep, CyclesInBounds] using hc

/-- Settles O20: the beginning of a step counts no cycles, and the rest is a running machine's step. -/
theorem stepCyclesAreBounded : Obligations.StepCyclesAreBounded := by
  intro s t hrun e
  simp only [step, hrun] at e
  exact stepRunning_cycles (s := s.beginStep) hrun e

end Sys2Proof.Machine
end

section
/-! PROOFS. Effective addresses as numbers: what zero-page wrapping, indexing and a page-zero pointer come to
(30_encoding.md R95 to R103). -/

namespace Sys2Proof.Machine

variable (s : State) (b index z : Byte) (base : Word)

theorem zext16_add_toNat : (zext16 (b + index)).toNat = (b.toNat + index.toNat) % 256 := by
  rw [zext16_toNat, BitVec.toNat_add]

theorem zext16_eq_ofNat : zext16 z = BitVec.ofNat 16 z.toNat := by
  apply BitVec.eq_of_toNat_eq
  rw [zext16_toNat, BitVec.toNat_ofNat]
  have := z.isLt
  omega

/-- Two addresses lie on different pages where their numbers differ in the 256s (R99). -/
theorem crosses_iff {a c : Word} : crosses a c = true ↔ a.toNat / 256 ≠ c.toNat / 256 := by
  simp only [crosses, decide_eq_true_eq, ne_eq, ← BitVec.toNat_inj, hi8_toNat]

theorem indexed_addr_toNat : (indexed base index s).addr.toNat = (base.toNat + index.toNat) % 65536 := by
  simp only [indexed, BitVec.toNat_add, zext16_toNat]

theorem indexed_cross_iff :
    (indexed base index s).cross = true ↔ (base.toNat + index.toNat) % 65536 / 256 ≠ base.toNat / 256 := by
  rw [← indexed_addr_toNat s index base]
  exact crosses_iff

/-- The pointer's two bytes, the high one from the next address of page zero (R102, R103). -/
theorem State.readPointer_toNat :
    (s.readPointer z).1.toNat =
      (s.ramByte (BitVec.ofNat 16 ((z.toNat + 1) % 256))).toNat * 256 + (s.ramByte (BitVec.ofNat 16 z.toNat)).toNat := by
  simp only [State.readPointer_eq, wordOf_toNat, zext16_eq_ofNat, BitVec.toNat_add]
  rfl

/-- Settles O26: the page-zero modes by their sums modulo 256, the indexed ones by the sum at 16 bits, on an absolute
base or on the pointer. -/
theorem effectiveAddresses : Obligations.EffectiveAddresses := by
  intro s b w
  refine ⟨⟨zext16_toNat b, rfl, rfl⟩, ⟨zext16_add_toNat b s.x, rfl, rfl⟩, ⟨zext16_add_toNat b s.y, rfl, rfl⟩,
    ⟨rfl, rfl, rfl⟩, ⟨indexed_addr_toNat s s.x w, rfl, indexed_cross_iff s s.x w⟩,
    ⟨indexed_addr_toNat s s.y w, rfl, indexed_cross_iff s s.y w⟩,
    ⟨s.readPointer_toNat (b + s.x), rfl, resolve_st s (.izx b)⟩, ?_⟩
  dsimp only
  rw [← s.readPointer_toNat b]
  exact ⟨indexed_addr_toNat _ s.y _, resolve_st s (.izy b), indexed_cross_iff _ s.y _⟩

end Sys2Proof.Machine
end

section
/-! PROOFS. Frames of the register updates, of the end of an instruction and of a push, and how frames add up; a source
operand is read once (30_encoding.md R94; 40_load_store_transfer.md R120). -/

namespace Sys2Proof.Machine

variable {s t u : State} {l l' : List Field}

/-- One change after another: what either may change. -/
theorem AgreeExcept.append (h : AgreeExcept l s t) (h' : AgreeExcept l' t u) : AgreeExcept (l ++ l') s u :=
  (h.mono (List.subset_append_left _ _)).trans (h'.mono (List.subset_append_right _ _))

theorem State.setA_frame (s : State) (v : Byte) : AgreeExcept [.a] s (s.setA v) := by
  intro f hf
  cases f <;> simp_all [agreeOn, State.ramByte]

theorem State.setX_frame (s : State) (v : Byte) : AgreeExcept [.x] s (s.setX v) := by
  intro f hf
  cases f <;> simp_all [agreeOn, State.ramByte]

theorem State.setY_frame (s : State) (v : Byte) : AgreeExcept [.y] s (s.setY v) := by
  intro f hf
  cases f <;> simp_all [agreeOn, State.ramByte]

theorem State.setSp_frame (s : State) (v : Byte) : AgreeExcept [.sp] s (s.setSp v) := by
  intro f hf
  cases f <;> simp_all [agreeOn, State.ramByte]

theorem State.setFlags_frame (s : State) (f : Flags) : AgreeExcept [.n, .v, .d, .i, .z, .c] s (s.setFlags f) := by
  intro f hf
  cases f <;> simp_all [agreeOn, State.ramByte]

/-- `setNZ` writes N and Z alone (10_state.md R34). -/
theorem State.setFlags_setNZ_frame (s : State) (v : Byte) :
    AgreeExcept [.n, .z] s (s.setFlags (setNZ v s.flags)) := by
  intro f hf
  cases f <;> simp_all [agreeOn, State.ramByte, setNZ]

theorem State.finish_frame (s : State) (len c : Nat) : AgreeExcept [.pc, .cycles] s (s.finish len c) := by
  intro f hf
  cases f <;> simp_all [agreeOn, State.ramByte]

/-- A push touches S, RAM and the record of writes: the stack page reaches no chip (10_state.md R24). -/
theorem State.push_frame (s : State) (v : Byte) : AgreeExcept [.sp, .ram, .busWrites] s (s.push v) := by
  intro f hf
  cases f <;> simp_all [agreeOn]

/-- Settles O27: a memory operand is one bus read of its effective address, and what such a read can touch. -/
theorem operandIsReadOnce : Obligations.OperandIsReadOnce := by
  intro s b m
  rw [operand_mem]
  exact ⟨rfl, rfl, rfl, rfl, s.afterRead_frame _, s.afterRead_of_not_isChip _⟩

end Sys2Proof.Machine
end

section
/-! PROOFS. Loads and transfers: each makes a register take a byte, with N and Z from it (40_load_store_transfer.md R121
to R123, R127 to R132). -/

namespace Sys2Proof.Machine

variable {reg : State → Byte} {field : Field}

/-- From `s` to `t` a register took `v`, N and Z follow it, PC moved past `len` bytes, `c` cycles were counted, and
nothing else changed. -/
structure Loaded (reg : State → Byte) (field : Field) (v : Byte) (len c : Nat) (s t : State) : Prop where
  reg_eq : reg t = v
  nz : NZ v t
  pc_eq : t.pc = s.pc + BitVec.ofNat 16 len
  cycles_eq : t.cycles = s.cycles + c
  frame : AgreeExcept [field, .n, .z, .pc, .cycles] s t

/-- `setNZ(v)` leaves N and Z as v says (10_state.md R34). -/
theorem NZ_of_flags_eq {t : State} {v : Byte} {f : Flags} (h : t.flags = setNZ v f) : NZ v t := by
  simp [NZ, h, setNZ]

theorem loadA_loaded (v : Byte) (len c : Nat) (s : State) : Loaded State.a .a v len c s ((loadA v s).finish len c) where
  reg_eq := rfl
  nz := NZ_of_flags_eq rfl
  pc_eq := rfl
  cycles_eq := rfl
  frame := ((s.setA_frame v).append (State.setFlags_setNZ_frame _ v)).append (State.finish_frame _ len c)

theorem loadX_loaded (v : Byte) (len c : Nat) (s : State) : Loaded State.x .x v len c s ((loadX v s).finish len c) where
  reg_eq := rfl
  nz := NZ_of_flags_eq rfl
  pc_eq := rfl
  cycles_eq := rfl
  frame := ((s.setX_frame v).append (State.setFlags_setNZ_frame _ v)).append (State.finish_frame _ len c)

theorem loadY_loaded (v : Byte) (len c : Nat) (s : State) : Loaded State.y .y v len c s ((loadY v s).finish len c) where
  reg_eq := rfl
  nz := NZ_of_flags_eq rfl
  pc_eq := rfl
  cycles_eq := rfl
  frame := ((s.setY_frame v).append (State.setFlags_setNZ_frame _ v)).append (State.finish_frame _ len c)

/-- The row's instruction is encoded as the row says and works on its source operand by `f`. -/
def DataRow.ReadsBy (f : Byte → State → State) (r : DataRow) : Prop :=
  r.Encoded ∧ ∀ s, exec r.instr s = readOp f r.src r.bytes r.cycles s

theorem ldaRows_readBy (b : Byte) (w : Word) : ∀ r ∈ ldaRows b w, r.ReadsBy loadA := by
  simp only [ldaRows, List.forall_mem_cons, List.not_mem_nil, false_imp_iff, implies_true, and_true]
  and_intros <;> intros <;> rfl

theorem ldxRows_readBy (b : Byte) (w : Word) : ∀ r ∈ ldxRows b w, r.ReadsBy loadX := by
  simp only [ldxRows, List.forall_mem_cons, List.not_mem_nil, false_imp_iff, implies_true, and_true]
  and_intros <;> intros <;> rfl

theorem ldyRows_readBy (b : Byte) (w : Word) : ∀ r ∈ ldyRows b w, r.ReadsBy loadY := by
  simp only [ldyRows, List.forall_mem_cons, List.not_mem_nil, false_imp_iff, implies_true, and_true]
  and_intros <;> intros <;> rfl

/-- A row that reads its operand into a register is a load: reading the operand moves neither PC nor the cycles. -/
theorem DataRow.ReadsBy.load {f : Byte → State → State} {r : DataRow} (h : r.ReadsBy f)
    (hf : ∀ v len c u, Loaded reg field v len c u ((f v u).finish len c)) (s : State) :
    r.Encoded ∧ ∃ t, exec r.instr s = .next t ∧ reg t = (operand r.src s).val ∧ NZ (reg t) t ∧ r.Ends s t ∧
      AgreeExcept [field, .n, .z, .pc, .cycles] (operand r.src s).st t := by
  obtain ⟨henc, hexec⟩ := h
  obtain ⟨hreg, hnz, hpc, hcycles, hframe⟩ :=
    hf (operand r.src s).val r.bytes (r.cycles + (operand r.src s).cross.toNat) (operand r.src s).st
  rw [operand_pc] at hpc
  rw [operand_cycles, ← Nat.add_assoc] at hcycles
  exact ⟨henc, _, hexec s, hreg, by rwa [hreg], ⟨hpc, hcycles⟩, hframe⟩

/-- Settles O37: every row of the three tables reads its operand into its register. -/
theorem loadRules : Obligations.LoadRules := fun b w s =>
  ⟨fun r hr => (ldaRows_readBy b w r hr).load loadA_loaded s,
    fun r hr => (ldxRows_readBy b w r hr).load loadX_loaded s,
    fun r hr => (ldyRows_readBy b w r hr).load loadY_loaded s⟩

/-- Settles O39: five transfers load a register with another; TXS writes S alone. -/
theorem transferRules : Obligations.TransferRules := by
  intro s ends
  have transfer {reg : State → Byte} {field : Field} {i : Instr} {op v : Byte} {t : State}
      (h : Loaded reg field v 1 2 s t) (henc : encode i = [op]) (hexec : exec i s = .next t) :
      ∃ t, ends i op t ∧ reg t = v ∧ NZ v t ∧ AgreeExcept [field, .n, .z, .pc, .cycles] s t :=
    ⟨t, ⟨henc, hexec, h.pc_eq, h.cycles_eq⟩, h.reg_eq, h.nz, h.frame⟩
  refine ⟨transfer (loadX_loaded s.a 1 2 s) rfl rfl, transfer (loadY_loaded s.a 1 2 s) rfl rfl,
    transfer (loadA_loaded s.x 1 2 s) rfl rfl, transfer (loadA_loaded s.y 1 2 s) rfl rfl,
    transfer (loadX_loaded s.sp 1 2 s) rfl rfl, ?_⟩
  exact ⟨(s.setSp s.x).finish 1 2, ⟨rfl, rfl, rfl, rfl⟩, rfl, (s.setSp_frame s.x).append (State.finish_frame _ 1 2)⟩

end Sys2Proof.Machine
end

section
/-! PROOFS. Stores: one bus write at the effective address, which is not read (40_load_store_transfer.md R124 to R126). -/

namespace Sys2Proof.Machine

/-- A store is one bus write and the end of the instruction: finding the effective address changes nothing. -/
theorem storeOp_eq (reg : State → Byte) (m : MemMode) (len base : Nat) (s : State) :
    storeOp reg m len base s = .next ((s.busWrite (resolve m s).addr (reg s)).finish len base) := by
  simp only [storeOp, resolve_st]

/-- The row's instruction is encoded as the row says and stores the register. -/
def MemRow.Stores (reg : State → Byte) (r : MemRow) : Prop :=
  r.Encoded ∧ ∀ s, exec r.instr s = storeOp reg r.mem r.bytes r.cycles s

theorem staRows_store (b : Byte) (w : Word) : ∀ r ∈ staRows b w, r.Stores State.a := by
  simp only [staRows, List.forall_mem_cons, List.not_mem_nil, false_imp_iff, implies_true, and_true]
  and_intros <;> intros <;> rfl

theorem stxRows_store (b : Byte) (w : Word) : ∀ r ∈ stxRows b w, r.Stores State.x := by
  simp only [stxRows, List.forall_mem_cons, List.not_mem_nil, false_imp_iff, implies_true, and_true]
  and_intros <;> intros <;> rfl

theorem styRows_store (b : Byte) (w : Word) : ∀ r ∈ styRows b w, r.Stores State.y := by
  simp only [styRows, List.forall_mem_cons, List.not_mem_nil, false_imp_iff, implies_true, and_true]
  and_intros <;> intros <;> rfl

/-- Settles O38: every row of the three tables is one bus write and the end of the instruction, each with its frame. -/
theorem storeRules : Obligations.StoreRules := by
  intro b w s store
  have stores {reg : State → Byte} {r : MemRow} (h : r.Stores reg) : store r (reg s) := by
    obtain ⟨henc, hexec⟩ := h
    have hwrite := s.busWrite_frame (resolve r.mem s).addr (reg s)
    have hfinish := (s.busWrite (resolve r.mem s).addr (reg s)).finish_frame r.bytes r.cycles
    refine ⟨henc, _, (hexec s).trans (storeOp_eq ..), ⟨by simp, by simp⟩, ?_, ?_, ?_⟩
    · rwa [resolve_st]
    · exact s.busWrite_sameRamBut _ _
    · rw [resolve_st]
      exact (hwrite.append hfinish).mono (by decide)
  exact ⟨fun r hr => stores (staRows_store b w r hr), fun r hr => stores (stxRows_store b w r hr),
    fun r hr => stores (styRows_store b w r hr)⟩

end Sys2Proof.Machine
end

section
/-! PROOFS. The stack instructions: a push and a pull at `$0100 | S` (40_load_store_transfer.md R133 to R136). -/

namespace Sys2Proof.Machine

/-- The stack address as the rules write it (10_state.md R24). -/
theorem or_setWidth_eq_stackAddr (sp : Byte) : 0x0100#16 ||| sp.setWidth 16 = stackAddr sp :=
  (BitVec.append_def 0x01#8 sp).symm

/-- The status byte PHP pushes, as the sum of its bits' weights (10_state.md R36). -/
theorem packP_true_eq_ofNat (f : Flags) :
    packP true f = BitVec.ofNat 8 (f.n.toNat * 128 + f.v.toNat * 64 + 32 + 16 + f.d.toNat * 8 + f.i.toNat * 4 +
      f.z.toNat * 2 + f.c.toNat) := by
  obtain ⟨n, v, d, i, z, c⟩ := f
  revert n v d i z c
  decide

/-- PLA pulls the byte at S + 1 into A (40_load_store_transfer.md R135). -/
theorem execPla_eq (s : State) :
    exec .pla s = .next ((loadA (s.ramByte (stackAddr (s.sp + 1#8))) (s.setSp (s.sp + 1#8))).finish 1 4) := by
  simp only [exec, execPla, State.pull_eq]

/-- Settles O40: both are a push and the end of the instruction; what PHP pushes is the packed status byte. -/
theorem pushRules : Obligations.PushRules := by
  intro s hram pushes
  have push {i : Instr} {op v : Byte} (henc : encode i = [op]) (hexec : exec i s = .next ((s.push v).finish 1 3)) :
      pushes i op v := by
    dsimp only [pushes]
    rw [or_setWidth_eq_stackAddr]
    exact ⟨henc, _, hexec, rfl, s.push_ramByte_eq v hram,
      fun w hw => s.push_ramByte_ne w v (List.ne_of_not_mem_cons hw), by simp, by simp,
      ((s.push_frame v).append (State.finish_frame _ 1 3)).mono (by decide)⟩
  refine ⟨push rfl rfl, ?_⟩
  rw [← packP_true_eq_ofNat]
  exact push rfl rfl

/-- Settles O41: both pull the byte above S; PLA is then a load of A, PLP unpacks the flags. -/
theorem pullRules : Obligations.PullRules := by
  intro s v pulls
  have hv : v = s.ramByte (stackAddr (s.sp + 1#8)) := congrArg s.ramByte (or_setWidth_eq_stackAddr _)
  have hpull := s.setSp_frame (s.sp + 1#8)
  constructor
  · obtain ⟨hreg, hnz, hpc, hcycles, hframe⟩ := loadA_loaded v 1 4 (s.setSp (s.sp + 1#8))
    refine ⟨_, ⟨rfl, ?_, rfl, hpc, hcycles⟩, hreg, hnz, (hpull.append hframe).mono (by decide)⟩
    rw [hv]
    exact execPla_eq s
  · refine ⟨((s.setSp (s.sp + 1#8)).setFlags (unpackP v)).finish 1 4, ⟨rfl, ?_, rfl, rfl, rfl⟩, rfl,
      (hpull.append (State.setFlags_frame _ _)).append (State.finish_frame _ 1 4)⟩
    rw [hv]
    exact execPlp_eq s

end Sys2Proof.Machine
end

section
/-! PROOFS. Where an instruction that reads its operand leaves the machine: its end and its frame follow from the frame
of the function it applies (40_load_store_transfer.md R120). -/

namespace Sys2Proof.Machine

variable {f : Byte → State → State} {l : List Field}

/-- Where the row's instruction leaves `s` if it works on its operand by `f`. -/
def DataRow.result (f : Byte → State → State) (r : DataRow) (s : State) : State :=
  (f (operand r.src s).val (operand r.src s).st).finish r.bytes (r.cycles + (operand r.src s).cross.toNat)

theorem DataRow.ReadsBy.exec_eq {r : DataRow} (h : r.ReadsBy f) (s : State) : exec r.instr s = .next (r.result f s) :=
  h.2 s

theorem DataRow.result_frame (hf : ∀ m u, AgreeExcept l u (f m u)) (r : DataRow) (s : State) :
    AgreeExcept (l ++ [Field.pc, .cycles]) (operand r.src s).st (r.result f s) :=
  (hf _ _).append (State.finish_frame _ _ _)

/-- A function that leaves PC and the cycles alone leaves both to the end of the instruction. -/
theorem DataRow.result_ends (hf : ∀ m u, AgreeExcept l u (f m u)) (hpc : .pc ∉ l) (hcycles : .cycles ∉ l)
    (r : DataRow) (s : State) : r.Ends s (r.result f s) := by
  have hp : (f (operand r.src s).val (operand r.src s).st).pc = _ := hf _ _ .pc hpc
  have hc : (f (operand r.src s).val (operand r.src s).st).cycles = _ := hf _ _ .cycles hcycles
  constructor
  · rw [DataRow.result, State.finish_pc, hp, operand_pc]
  · rw [DataRow.result, State.finish_cycles, hc, operand_cycles, Nat.add_assoc]

theorem loadA_frame (v : Byte) (s : State) : AgreeExcept [.a, .n, .z] s (loadA v s) :=
  (s.setA_frame v).append (State.setFlags_setNZ_frame _ v)

/-- Comparisons and shifts write N, Z and C alone (41_arith_logic.md R157 to R159, R166 to R169). -/
theorem State.setFlags_setNZ_carry_frame (s : State) (r : Byte) (c : Bool) :
    AgreeExcept [.n, .z, .c] s (s.setFlags (setNZ r { s.flags with c := c })) := by
  intro f hf
  cases f <;> simp_all [agreeOn, State.ramByte, setNZ]

theorem bitA_frame (m : Byte) (s : State) : AgreeExcept [.n, .v, .z] s (bitA m s) := by
  intro f hf
  cases f <;> simp_all [agreeOn, State.ramByte, bitA, bitFlags]

theorem State.drawIf_drawIndex (s : State) (b : Bool) : (s.drawIf b).drawIndex = s.drawIndex + b.toNat := by
  cases b <;> rfl

theorem applyAlu_frame (res : AluResult) (s : State) :
    AgreeExcept [.a, .n, .v, .z, .c, .drawIndex] s (applyAlu res s) := by
  intro f hf
  cases f <;> simp_all [agreeOn, State.ramByte, applyAlu, aluFlags, setNZ]

/-- N is the top bit: the byte is at least 128 (10_state.md R34). -/
theorem getLsbD_seven_eq_decide (v : Byte) : v.getLsbD 7 = decide (128 ≤ v.toNat) :=
  v.msb_eq_getLsbD_last.symm.trans v.msb_eq_decide

end Sys2Proof.Machine
end

section
/-! PROOFS. AND, ORA, EOR, BIT and the comparisons (41_arith_logic.md R153 to R159). -/

namespace Sys2Proof.Machine

theorem andRows_readBy (b : Byte) (w : Word) : ∀ r ∈ andRows b w, r.ReadsBy andA :=
  List.forall_iff_forall_mem.1 (by and_intros <;> intros <;> rfl)

theorem oraRows_readBy (b : Byte) (w : Word) : ∀ r ∈ oraRows b w, r.ReadsBy orA :=
  List.forall_iff_forall_mem.1 (by and_intros <;> intros <;> rfl)

theorem eorRows_readBy (b : Byte) (w : Word) : ∀ r ∈ eorRows b w, r.ReadsBy eorA :=
  List.forall_iff_forall_mem.1 (by and_intros <;> intros <;> rfl)

theorem bitRows_readBy (b : Byte) (w : Word) : ∀ r ∈ bitRows b w, r.ReadsBy bitA :=
  List.forall_iff_forall_mem.1 (by and_intros <;> intros <;> rfl)

theorem cmpRows_readBy (b : Byte) (w : Word) : ∀ r ∈ cmpRows b w, r.ReadsBy compareA :=
  List.forall_iff_forall_mem.1 (by and_intros <;> intros <;> rfl)

theorem cpxRows_readBy (b : Byte) (w : Word) : ∀ r ∈ cpxRows b w, r.ReadsBy compareX :=
  List.forall_iff_forall_mem.1 (by and_intros <;> intros <;> rfl)

theorem cpyRows_readBy (b : Byte) (w : Word) : ∀ r ∈ cpyRows b w, r.ReadsBy compareY :=
  List.forall_iff_forall_mem.1 (by and_intros <;> intros <;> rfl)

/-- Settles O46: each of the three loads A with a byte made of A and the operand bit by bit. -/
theorem logicRules : Obligations.LogicRules := by
  intro b w s bitwise
  have logic {r : DataRow} {g : Byte → Byte → Byte} {op : Bool → Bool → Bool}
      (h : r.ReadsBy fun m u => loadA (g u.a m) u)
      (hg : ∀ {k a m}, (g a m).getLsbD k = op (a.getLsbD k) (m.getLsbD k)) : bitwise r op := by
    have hframe (m : Byte) (u : State) := loadA_frame (g u.a m) u
    refine ⟨h.1, _, h.exec_eq s, fun k _ => ?_, NZ_of_flags_eq rfl,
      DataRow.result_ends hframe (by decide) (by decide) r s, DataRow.result_frame hframe r s⟩
    rw [← operand_a s r.src]
    exact hg
  exact ⟨fun r hr => logic (g := (· &&& ·)) (andRows_readBy b w r hr) BitVec.getLsbD_and,
    fun r hr => logic (g := (· ||| ·)) (oraRows_readBy b w r hr) BitVec.getLsbD_or,
    fun r hr => logic (g := (· ^^^ ·)) (eorRows_readBy b w r hr) BitVec.getLsbD_xor⟩

/-- Two bytes have no set bit in common where their conjunction is zero. -/
theorem and_eq_zero_iff_forall_getLsbD (a m : Byte) :
    a &&& m = 0#8 ↔ ∀ k, k < 8 → ¬(a.getLsbD k = true ∧ m.getLsbD k = true) := by
  simp [BitVec.eq_of_getLsbD_eq_iff]

/-- Settles O47: BIT writes the three flags from A and the operand. -/
theorem bitTestRule : Obligations.BitTestRule := by
  intro b w s r hr
  have h := bitRows_readBy b w r hr
  refine ⟨h.1, _, h.exec_eq s, ?_, rfl, rfl, DataRow.result_ends bitA_frame (by decide) (by decide) r s,
    DataRow.result_frame bitA_frame r s⟩
  rw [← and_eq_zero_iff_forall_getLsbD, ← operand_a s r.src]
  exact decide_eq_true_iff

theorem compareFlags_c (r m : Byte) (f : Flags) : (compareFlags r m f).c = true ↔ m.toNat ≤ r.toNat :=
  decide_eq_true_iff

theorem compareFlags_z (r m : Byte) (f : Flags) : (compareFlags r m f).z = true ↔ r = m :=
  decide_eq_true_iff.trans sub_eq_zero

/-- N of a comparison is the top bit of the difference modulo 256 (41_arith_logic.md R157). -/
theorem compareFlags_n (r m : Byte) (f : Flags) :
    (compareFlags r m f).n = true ↔ 128 ≤ ((r.toNat : Int) - m.toNat) % 256 := by
  have hn : (compareFlags r m f).n = decide (128 ≤ (r - m).toNat) := getLsbD_seven_eq_decide _
  rw [hn, decide_eq_true_iff, BitVec.toNat_sub]
  omega

/-- Settles O48: each of the three sets the flags by comparing its register, which reading the operand leaves alone. -/
theorem compareRules : Obligations.CompareRules := by
  intro b w s compares
  have compare {r : DataRow} {reg : State → Byte}
      (h : r.ReadsBy fun m u => u.setFlags (compareFlags (reg u) m u.flags))
      (hreg : reg (operand r.src s).st = reg s) : compares r (reg s) := by
    have hframe (m : Byte) (u : State) := u.setFlags_setNZ_carry_frame (reg u - m) (decide (m.toNat ≤ (reg u).toNat))
    dsimp only [compares]
    rw [← hreg]
    exact ⟨h.1, _, h.exec_eq s, compareFlags_c _ _ _, compareFlags_z _ _ _, compareFlags_n _ _ _,
      DataRow.result_ends hframe (by decide) (by decide) r s, DataRow.result_frame hframe r s⟩
  exact ⟨fun r hr => compare (cmpRows_readBy b w r hr) (operand_a s r.src),
    fun r hr => compare (cpxRows_readBy b w r hr) (operand_x s r.src),
    fun r hr => compare (cpyRows_readBy b w r hr) (operand_y s r.src)⟩

end Sys2Proof.Machine
end

section
/-! PROOFS. ADC and SBC: the binary sum, with SBC as ADC of the complement, the decimal sum and difference digit by
digit, and the three cases by D and the operands (41_arith_logic.md R150 to R152, R170). -/

namespace Sys2Proof.Machine

theorem adcRows_readBy (b : Byte) (w : Word) : ∀ r ∈ adcRows b w, r.ReadsBy addA :=
  List.forall_iff_forall_mem.1 (by and_intros <;> intros <;> rfl)

theorem sbcRows_readBy (b : Byte) (w : Word) : ∀ r ∈ sbcRows b w, r.ReadsBy subA :=
  List.forall_iff_forall_mem.1 (by and_intros <;> intros <;> rfl)

/-- From `u` to `t` A took the result, its C and V were set, N and Z follow A, and a draw was taken in decimal mode. -/
structure TookAlu (res : AluResult) (u t : State) : Prop where
  a_eq : t.a = res.r
  c_eq : t.flags.c = res.c
  v_eq : t.flags.v = res.v
  nz : NZ t.a t
  drawIndex_eq : t.drawIndex = u.drawIndex + u.flags.d.toNat
  frame : AgreeExcept [.a, .n, .v, .z, .c, .pc, .cycles, .drawIndex] u t

theorem applyAlu_finish_tookAlu (res : AluResult) (len cycles : Nat) (u : State) :
    TookAlu res u ((applyAlu res u).finish len cycles) where
  a_eq := by simp [applyAlu]
  c_eq := by simp [applyAlu, aluFlags, setNZ]
  v_eq := by simp [applyAlu, aluFlags, setNZ]
  nz := by simp [NZ, applyAlu, aluFlags, setNZ]
  drawIndex_eq := State.drawIf_drawIndex _ _
  frame := ((applyAlu_frame res u).append (State.finish_frame _ len cycles)).mono (by decide)

/-- A row that works on its operand by ADC or SBC: its result is made of the flags and A as they were. -/
theorem DataRow.ReadsBy.alu {g : Flags → Byte → Byte → Nat → AluResult} {r : DataRow}
    (h : r.ReadsBy fun m u => applyAlu (g u.flags u.a m u.drawIndex) u) (s : State) :
    ∃ t, exec r.instr s = .next t ∧ r.Ends s t ∧
      TookAlu (g s.flags s.a (operand r.src s).val (operand r.src s).st.drawIndex) (operand r.src s).st t := by
  have hframe (m : Byte) (u : State) := applyAlu_frame (g u.flags u.a m u.drawIndex) u
  refine ⟨_, h.exec_eq s, DataRow.result_ends hframe (by decide) (by decide) r s, ?_⟩
  rw [← operand_flags s r.src, ← operand_a s r.src]
  exact applyAlu_finish_tookAlu _ _ _ _

section Results
variable {f : Flags} {a m : Byte} {draw : Nat}

theorem adcResult_binary (hd : f.d = false) : adcResult f a m draw = adcBinary a m f.c.toNat := if_pos hd

theorem sbcResult_binary (hd : f.d = false) : sbcResult f a m draw = sbcBinary a m f.c.toNat := if_pos hd

theorem adcResult_decimal (hd : f.d = true) (ha : bcdValid a = true) (hm : bcdValid m = true) :
    adcResult f a m draw =
      ⟨(adcDecimal a m f.c.toNat).1, (adcDecimal a m f.c.toNat).2, Config.decimalOverflow draw⟩ := by
  simp [adcResult, hd, ha, hm, Flags.carryIn]

theorem sbcResult_decimal (hd : f.d = true) (ha : bcdValid a = true) (hm : bcdValid m = true) :
    sbcResult f a m draw =
      ⟨(sbcDecimal a m f.c.toNat).1, (sbcDecimal a m f.c.toNat).2, Config.decimalOverflow draw⟩ := by
  simp [sbcResult, hd, ha, hm, Flags.carryIn]

theorem adcResult_drawn (hd : f.d = true) (h : bcdValid a = false ∨ bcdValid m = false) :
    adcResult f a m draw = decimalDraw draw := by
  rcases h with h | h <;> simp [adcResult, hd, h]

theorem sbcResult_drawn (hd : f.d = true) (h : bcdValid a = false ∨ bcdValid m = false) :
    sbcResult f a m draw = decimalDraw draw := by
  rcases h with h | h <;> simp [sbcResult, hd, h]

end Results

/-! Binary mode. -/

variable (a m : Byte) (c : Bool)

theorem adcBinary_r_toNat (n : Nat) : (adcBinary a m n).r.toNat = (a.toNat + m.toNat + n) % 256 :=
  BitVec.toNat_ofNat _ _

theorem adcBinary_c_iff (n : Nat) : (adcBinary a m n).c = true ↔ 255 < a.toNat + m.toNat + n := decide_eq_true_iff

/-- V by the sign rule: the operands have one sign, the result the other (41_arith_logic.md R151). -/
theorem adcBinary_v_iff (n : Nat) :
    (adcBinary a m n).v = true ↔
      (128 ≤ a.toNat ↔ 128 ≤ m.toNat) ∧ ¬(128 ≤ a.toNat ↔ 128 ≤ (adcBinary a m n).r.toNat) := by
  have hv : (adcBinary a m n).v = ((a ^^^ (adcBinary a m n).r) &&& (m ^^^ (adcBinary a m n).r)).getLsbD 7 := rfl
  rw [hv, BitVec.getLsbD_and, BitVec.getLsbD_xor, BitVec.getLsbD_xor]
  simp only [getLsbD_seven_eq_decide, Bool.and_eq_true, Bool.xor_iff_ne, ne_eq, decide_eq_decide]
  tauto

theorem toInt_eq_toNat_sub (v : Byte) : v.toInt = v.toNat - if 128 ≤ v.toNat then 256 else 0 := by
  rw [BitVec.toInt_eq_toNat_cond]
  split_ifs <;> omega

theorem adcBinary_v_iff_overflow :
    (adcBinary a m c.toNat).v = true ↔ a.toInt + m.toInt + c.toNat < -128 ∨ 127 < a.toInt + m.toInt + c.toNat := by
  have ha := a.isLt
  have hm := m.isLt
  have hc := c.toNat_le
  rw [adcBinary_v_iff, adcBinary_r_toNat, toInt_eq_toNat_sub, toInt_eq_toNat_sub]
  split_ifs <;> omega

/-- Binary SBC is ADC of the operand's complement, C being no borrow (41_arith_logic.md R152). -/
theorem sbcBinary_eq_adcBinary_not (n : Nat) : sbcBinary a m n = adcBinary a (~~~m) n := by
  have hnot : m ^^^ 0xFF#8 = ~~~m := BitVec.xor_allOnes
  have hv (r : Byte) : ((a ^^^ m) &&& (a ^^^ r)).getLsbD 7 = ((a ^^^ r) &&& (~~~m ^^^ r)).getLsbD 7 := by
    simp only [BitVec.getLsbD_and, BitVec.getLsbD_xor, BitVec.getLsbD_not]
    cases a.getLsbD 7 <;> cases m.getLsbD 7 <;> cases r.getLsbD 7 <;> rfl
  simp only [sbcBinary, adcBinary, hnot, hv]

theorem not_toNat (m : Byte) : (~~~m).toNat = 255 - m.toNat := BitVec.toNat_not

theorem sbcBinary_r_toNat :
    ((sbcBinary a m c.toNat).r.toNat : Int) = ((a.toNat : Int) - m.toNat - (1 - c.toNat)) % 256 := by
  have hm := m.isLt
  rw [sbcBinary_eq_adcBinary_not, adcBinary_r_toNat, not_toNat]
  omega

theorem sbcBinary_c_iff : (sbcBinary a m c.toNat).c = true ↔ 0 ≤ (a.toNat : Int) - m.toNat - (1 - c.toNat) := by
  have hm := m.isLt
  rw [sbcBinary_eq_adcBinary_not, adcBinary_c_iff, not_toNat]
  omega

theorem not_toInt : (~~~m).toInt = -m.toInt - 1 := by
  have hm := m.isLt
  rw [toInt_eq_toNat_sub, toInt_eq_toNat_sub, not_toNat]
  split_ifs <;> omega

theorem sbcBinary_v_iff_overflow :
    (sbcBinary a m c.toNat).v = true ↔
      a.toInt - m.toInt - (1 - c.toNat) < -128 ∨ 127 < a.toInt - m.toInt - (1 - c.toNat) := by
  have hexact : a.toInt + (~~~m).toInt + c.toNat = a.toInt - m.toInt - (1 - c.toNat) := by
    rw [not_toInt]
    omega
  rw [sbcBinary_eq_adcBinary_not, adcBinary_v_iff_overflow, hexact]

/-! Decimal mode: two digits from 0 to 9, each with its carry or borrow. -/

theorem bcdValid_iff : bcdValid a = true ↔ a.toNat / 16 ≤ 9 ∧ a.toNat % 16 ≤ 9 := by
  simp only [bcdValid, Bool.and_eq_true, decide_eq_true_eq]

/-- A byte put together from two decimal digits is BCD, with the number they stand for. -/
theorem bcd_of_digits {v : Byte} {hi lo : Nat} (h : v.toNat = hi * 16 + lo) (hhi : hi ≤ 9) (hlo : lo ≤ 9) :
    bcdValid v = true ∧ bcdValue v = 10 * hi + lo := by
  rw [bcdValid_iff, bcdValue]
  omega

/-- Adding 6 to a sum of two digits above 9 leaves the digit in four bits and the carry above them. -/
theorem addSix_digit {n : Nat} (h : n ≤ 19) :
    (if 9 < n then n + 6 else n) % 16 = n % 10 ∧ (15 < (if 9 < n then n + 6 else n) ↔ 10 ≤ n) := by
  split_ifs <;> omega

/-- Decimal ADC digit by digit, `lo` and `hi` being the sums of the digits with the carries into them. -/
theorem adcDecimal_digits {n lo hi : Nat} (hlo : lo = a.toNat % 16 + m.toNat % 16 + n)
    (hhi : hi = a.toNat / 16 + m.toNat / 16 + lo / 10) (hlo19 : lo ≤ 19) (hhi19 : hi ≤ 19) :
    (adcDecimal a m n).1.toNat = hi % 10 * 16 + lo % 10 ∧ ((adcDecimal a m n).2 = true ↔ 10 ≤ hi) := by
  obtain ⟨hlodigit, hlocarry⟩ := addSix_digit hlo19
  obtain ⟨hhidigit, hhicarry⟩ := addSix_digit hhi19
  have hcarry : (if 10 ≤ lo then 1 else 0) = lo / 10 := by split_ifs <;> omega
  simp only [adcDecimal, ← hlo, hlocarry, hlodigit, hcarry, ← hhi, hhicarry, decide_eq_true_eq, BitVec.toNat_ofNat,
    and_true]
  omega

/-- A digit difference that went below 0 is borrowed for, which is the remainder and the quotient by 10. -/
theorem borrow_digit {d h : Int} (hlo : -10 ≤ d) (hhi : d ≤ 9) :
    (if d < 0 then d + 10 else d) = d % 10 ∧ (if d < 0 then h - 1 else h) = h + d / 10 := by
  split_ifs <;> omega

/-- Decimal SBC digit by digit, `lo` and `hi` being the differences of the digits with the borrows from them. -/
theorem sbcDecimal_digits {n : Nat} {lo hi : Int}
    (hlo : lo = (a.toNat % 16 : Nat) - (m.toNat % 16 : Nat) - (1 - n))
    (hhi : hi = (a.toNat / 16 : Nat) - (m.toNat / 16 : Nat) + lo / 10)
    (hlo10 : -10 ≤ lo) (hlo9 : lo ≤ 9) (hhi10 : -10 ≤ hi) (hhi9 : hi ≤ 9) :
    ((sbcDecimal a m n).1.toNat : Int) = hi % 10 * 16 + lo % 10 := by
  simp only [sbcDecimal, ← hlo, borrow_digit hlo10 hlo9, ← hhi, borrow_digit (h := 0) hhi10 hhi9, BitVec.toNat_ofInt]
  omega

section Decimal
variable {a m : Byte} (ha : bcdValid a = true) (hm : bcdValid m = true)
include ha hm

theorem adcDecimal_spec :
    bcdValid (adcDecimal a m c.toNat).1 = true ∧
      bcdValue (adcDecimal a m c.toNat).1 = (bcdValue a + bcdValue m + c.toNat) % 100 ∧
      ((adcDecimal a m c.toNat).2 = true ↔ 100 ≤ bcdValue a + bcdValue m + c.toNat) := by
  obtain ⟨hahi, halo⟩ := (bcdValid_iff a).1 ha
  obtain ⟨hmhi, hmlo⟩ := (bcdValid_iff m).1 hm
  have hc := c.toNat_le
  obtain ⟨hr, hcarry⟩ := adcDecimal_digits a m (n := c.toNat) rfl rfl (by omega) (by omega)
  obtain ⟨hvalid, hvalue⟩ := bcd_of_digits hr (by omega) (by omega)
  rw [hcarry, hvalue, bcdValue, bcdValue]
  exact ⟨hvalid, by omega, by omega⟩

theorem sbcDecimal_spec :
    bcdValid (sbcDecimal a m c.toNat).1 = true ∧
      (bcdValue (sbcDecimal a m c.toNat).1 : Int) = ((bcdValue a : Int) - bcdValue m - (1 - c.toNat)) % 100 := by
  obtain ⟨hahi, halo⟩ := (bcdValid_iff a).1 ha
  obtain ⟨hmhi, hmlo⟩ := (bcdValid_iff m).1 hm
  have hc := c.toNat_le
  have hr := sbcDecimal_digits a m (n := c.toNat) rfl rfl (by omega) (by omega) (by omega) (by omega)
  rw [bcdValid_iff]
  simp only [bcdValue]
  omega

end Decimal

/-- Settles O43: by D and the operands, the result is the binary sum, the decimal sum with V drawn, or all drawn. -/
theorem addWithCarryRule : Obligations.AddWithCarryRule := by
  intro b w s r hr
  have h := adcRows_readBy b w r hr
  obtain ⟨t, hexec, hends, ha, hc, hv, hnz, hdraw, hframe⟩ := h.alu (g := adcResult) s
  rw [operand_flags] at hdraw
  refine ⟨h.1, t, hexec, hnz, hends, hframe, hdraw, fun hd => ?_, fun hd hba hbm => ?_, fun hd hb => ?_⟩
  · rw [adcResult_binary hd] at ha hc hv
    rw [hc, ha, hv]
    exact ⟨adcBinary_r_toNat _ _ _, adcBinary_c_iff _ _ _, rfl⟩
  · rw [adcResult_decimal hd hba hbm] at ha hc hv
    obtain ⟨hvalid, hvalue, hcarry⟩ := adcDecimal_spec s.flags.c hba hbm
    rw [hc, ha]
    exact ⟨hvalid, hvalue, hcarry, hv⟩
  · rw [adcResult_drawn hd hb] at ha hc hv
    exact ⟨ha, hc, hv⟩

/-- Settles O44: by D and the operands, the result is the binary difference, the decimal difference with V drawn, or
all drawn. -/
theorem subtractWithBorrowRule : Obligations.SubtractWithBorrowRule := by
  intro b w s r hr
  have h := sbcRows_readBy b w r hr
  obtain ⟨t, hexec, hends, ha, hc, hv, hnz, hdraw, hframe⟩ := h.alu (g := sbcResult) s
  rw [operand_flags] at hdraw
  refine ⟨h.1, t, hexec, hnz, hends, hframe, hdraw, fun hd => ?_, fun hd hba hbm => ?_, fun hd hb => ?_⟩
  · rw [sbcResult_binary hd] at ha hc hv
    rw [hc, ha, hv]
    exact ⟨sbcBinary_r_toNat _ _ _, sbcBinary_c_iff _ _ _, rfl⟩
  · rw [sbcResult_decimal hd hba hbm] at ha hc hv
    obtain ⟨hvalid, hvalue⟩ := sbcDecimal_spec s.flags.c hba hbm
    rw [hc, ha]
    exact ⟨hvalid, hvalue, decide_eq_true_iff, hv⟩
  · rw [sbcResult_drawn hd hb] at ha hc hv
    exact ⟨ha, hc, hv⟩

/-- Settles O45: V by the sign rule is the signed overflow, for SBC as for ADC of the complement. -/
theorem overflowIsSigned : Obligations.OverflowIsSigned := by
  intro b w s hd
  refine ⟨fun r hr => ?_, fun r hr => ?_⟩
  · obtain ⟨t, hexec, -, hres⟩ := (adcRows_readBy b w r hr).alu (g := adcResult) s
    refine ⟨t, hexec, ?_⟩
    rw [hres.v_eq, adcResult_binary hd]
    exact adcBinary_v_iff_overflow _ _ _
  · obtain ⟨t, hexec, -, hres⟩ := (sbcRows_readBy b w r hr).alu (g := sbcResult) s
    refine ⟨t, hexec, ?_⟩
    rw [hres.v_eq, sbcResult_binary hd]
    exact sbcBinary_v_iff_overflow _ _ _

end Sys2Proof.Machine
end

section
/-! PROOFS. INC, DEC and the shifts: a byte in memory or a register is read once and put back changed, with the flags
from it (41_arith_logic.md R160 to R169). -/

namespace Sys2Proof.Machine

variable {f : Byte → Flags → Byte × Flags} {l : List Field}

/-- The row's instruction is encoded as the row says and changes its memory byte by `f`. -/
def MemRow.ModifiesBy (f : Byte → Flags → Byte × Flags) (r : MemRow) : Prop :=
  r.Encoded ∧ ∀ s, exec r.instr s = modifyOp f r.mem r.bytes r.cycles s

/-- Where the row's instruction leaves `s` if it changes its memory byte by `f`: one bus read and one bus write of the
effective address, the flags, the end of the instruction. -/
def MemRow.result (f : Byte → Flags → Byte × Flags) (r : MemRow) (s : State) : State :=
  let a := (resolve r.mem s).addr
  let w := f (s.peek a) s.flags
  (((s.afterRead a).busWrite a w.1).setFlags w.2).finish r.bytes r.cycles

theorem MemRow.ModifiesBy.exec_eq {r : MemRow} (h : r.ModifiesBy f) (s : State) :
    exec r.instr s = .next (r.result f s) := by
  rw [h.2 s]
  simp [modifyOp, MemRow.result]

section Result
variable (r : MemRow) (s : State)

theorem MemRow.result_ends : r.Ends s (r.result f s) := by
  constructor <;> simp [MemRow.result]

theorem MemRow.result_ram :
    (r.result f s).ram = ((s.afterRead (resolve r.mem s).addr).busWrite (resolve r.mem s).addr
      (f (s.peek (resolve r.mem s).addr) s.flags).1).ram := by
  simp [MemRow.result]

theorem MemRow.result_sameRamBut : SameRamBut [(resolve r.mem s).addr] s (r.result f s) := fun x hx => by
  rw [State.ramByte_congr (MemRow.result_ram r s), State.busWrite_sameRamBut _ _ _ x hx, State.afterRead_ramByte]

variable (hf : ∀ v (u : State), AgreeExcept l u (u.setFlags (f v u.flags).2))
include hf

/-- After the write only the flags and the end of the instruction follow. -/
theorem MemRow.result_frame_write :
    let a := (resolve r.mem s).addr
    AgreeExcept (l ++ [Field.pc, .cycles]) ((s.afterRead a).busWrite a (f (s.peek a) s.flags).1) (r.result f s) := by
  intro a
  have hflags := hf (s.peek a) ((s.afterRead a).busWrite a (f (s.peek a) s.flags).1)
  rw [State.busWrite_flags, State.afterRead_flags] at hflags
  exact hflags.append (State.finish_frame _ _ _)

theorem MemRow.result_frame :
    AgreeExcept (l ++ [Field.pc, .cycles, .ram, .timer0, .timer1, .video, .drawIndex, .busWrites]) s
      (r.result f s) := by
  have hread := s.afterRead_frame (resolve r.mem s).addr
  have hwrite := (s.afterRead (resolve r.mem s).addr).busWrite_frame (resolve r.mem s).addr
    (f (s.peek (resolve r.mem s).addr) s.flags).1
  exact ((hread.append hwrite).append (MemRow.result_frame_write r s hf)).mono
    (List.append_subset.2 ⟨List.subset_append_of_subset_right l (by decide),
      List.append_subset.2 ⟨List.subset_append_left _ _, List.subset_append_of_subset_right l (by decide)⟩⟩)

end Result

/-- What a read-modify-write does: it is encoded as its row says, the flags are its function's, and the frames. -/
theorem MemRow.ModifiesBy.modify {r : MemRow} (h : r.ModifiesBy f)
    (hf : ∀ v (u : State), AgreeExcept l u (u.setFlags (f v u.flags).2)) (s : State) :
    let a := (resolve r.mem s).addr
    let w := f (s.peek a) s.flags
    r.Encoded ∧ ∃ t, exec r.instr s = .next t ∧ t.flags = w.2 ∧ r.Ends s t ∧
      AgreeExcept (l ++ [Field.pc, .cycles]) ((s.afterRead a).busWrite a w.1) t ∧ SameRamBut [a] s t ∧
      AgreeExcept (l ++ [Field.pc, .cycles, .ram, .timer0, .timer1, .video, .drawIndex, .busWrites]) s t :=
  ⟨h.1, _, h.exec_eq s, rfl, MemRow.result_ends r s, MemRow.result_frame_write r s hf, MemRow.result_sameRamBut r s,
    MemRow.result_frame r s hf⟩

theorem incRows_modifyBy (b : Byte) (w : Word) : ∀ r ∈ incRows b w, r.ModifiesBy incByte :=
  List.forall_iff_forall_mem.1 (by and_intros <;> intros <;> rfl)

theorem decRows_modifyBy (b : Byte) (w : Word) : ∀ r ∈ decRows b w, r.ModifiesBy decByte :=
  List.forall_iff_forall_mem.1 (by and_intros <;> intros <;> rfl)

theorem aslRows_modifyBy (b : Byte) (w : Word) : ∀ r ∈ aslRows b w, r.ModifiesBy aslByte :=
  List.forall_iff_forall_mem.1 (by and_intros <;> intros <;> rfl)

theorem lsrRows_modifyBy (b : Byte) (w : Word) : ∀ r ∈ lsrRows b w, r.ModifiesBy lsrByte :=
  List.forall_iff_forall_mem.1 (by and_intros <;> intros <;> rfl)

theorem rolRows_modifyBy (b : Byte) (w : Word) : ∀ r ∈ rolRows b w, r.ModifiesBy rolByte :=
  List.forall_iff_forall_mem.1 (by and_intros <;> intros <;> rfl)

theorem rorRows_modifyBy (b : Byte) (w : Word) : ∀ r ∈ rorRows b w, r.ModifiesBy rorByte :=
  List.forall_iff_forall_mem.1 (by and_intros <;> intros <;> rfl)

theorem add_one_toNat (v : Byte) : (v + 1#8).toNat = (v.toNat + 1) % 256 := BitVec.toNat_add v 1#8

theorem sub_one_toNat (v : Byte) : (v - 1#8).toNat = (v.toNat + 255) % 256 := BitVec.toNat_sub' v 1#8

/-- Settles O49: both put back the byte plus a number, 255 being one less modulo 256, with N and Z from it. -/
theorem memoryStepRules : Obligations.MemoryStepRules := by
  intro b w s steps
  have step {r : MemRow} {g : Byte → Byte} {delta : Nat} (h : r.ModifiesBy fun v fl => (g v, setNZ (g v) fl))
      (hg : ∀ v, (g v).toNat = (v.toNat + delta) % 256) : steps r delta := by
    obtain ⟨henc, t, hexec, hflags, hframes⟩ := h.modify (fun v u => u.setFlags_setNZ_frame (g v)) s
    have hv (v : Byte) : BitVec.ofNat 8 (v.toNat + delta) = g v :=
      BitVec.eq_of_toNat_eq ((BitVec.toNat_ofNat _ _).trans (hg v).symm)
    dsimp only [steps]
    rw [hv]
    exact ⟨henc, t, hexec, NZ_of_flags_eq hflags, hframes⟩
  exact ⟨fun r hr => step (g := (· + 1#8)) (incRows_modifyBy b w r hr) add_one_toNat,
    fun r hr => step (g := (· - 1#8)) (decRows_modifyBy b w r hr) sub_one_toNat⟩

/-- Settles O50: each loads its register with one more or one less than it holds. -/
theorem registerStepRules : Obligations.RegisterStepRules := by
  intro s ends
  have step {reg : State → Byte} {field : Field} {i : Instr} {op v : Byte} {n : Nat} {t : State}
      (h : Loaded reg field v 1 2 s t) (hv : v.toNat = n) (henc : encode i = [op]) (hexec : exec i s = .next t) :
      ∃ t, ends i op t ∧ (reg t).toNat = n ∧ NZ (reg t) t ∧ AgreeExcept [field, .n, .z, .pc, .cycles] s t := by
    obtain ⟨hreg, hnz, hpc, hcycles, hframe⟩ := h
    rw [← hreg] at hv hnz
    exact ⟨t, ⟨henc, hexec, hpc, hcycles⟩, hv, hnz, hframe⟩
  exact ⟨step (loadX_loaded (s.x + 1#8) 1 2 s) (add_one_toNat _) rfl rfl,
    step (loadY_loaded (s.y + 1#8) 1 2 s) (add_one_toNat _) rfl rfl,
    step (loadX_loaded (s.x - 1#8) 1 2 s) (sub_one_toNat _) rfl rfl,
    step (loadY_loaded (s.y - 1#8) 1 2 s) (sub_one_toNat _) rfl rfl⟩

/-! The bytes the shifts make, as numbers. -/

theorem shiftLeft_one_toNat (v : Byte) : (v <<< 1).toNat = v.toNat * 2 % 256 := by
  rw [BitVec.toNat_shiftLeft, Nat.shiftLeft_eq]

theorem ushiftRight_one_toNat (v : Byte) : (v >>> 1).toNat = v.toNat / 2 := by
  rw [BitVec.toNat_ushiftRight, Nat.shiftRight_eq_div_pow]

theorem ofBool_setWidth_toNat (c : Bool) : ((BitVec.ofBool c).setWidth 8).toNat = c.toNat := by
  cases c <;> rfl

/-- The old C enters the bit that the shift left free, so that joining the bits is adding (41_arith_logic.md R168). -/
theorem rotateLeft_toNat (v : Byte) (c : Bool) :
    ((v <<< 1) ||| (BitVec.ofBool c).setWidth 8).toNat = (v.toNat * 2 + c.toNat) % 256 := by
  have hfree : (v <<< 1) &&& (BitVec.ofBool c).setWidth 8 = 0#8 := by
    ext k hk
    rcases k with _ | k <;> simp
  rw [← BitVec.add_eq_or_of_and_eq_zero _ _ hfree, BitVec.toNat_add, shiftLeft_one_toNat, ofBool_setWidth_toNat]
  omega

/-- As for ROL, with the bit at the other end (41_arith_logic.md R169). -/
theorem rotateRight_toNat (v : Byte) (c : Bool) :
    ((v >>> 1) ||| ((BitVec.ofBool c).setWidth 8 <<< 7)).toNat = v.toNat / 2 + 128 * c.toNat := by
  have hfree : (v >>> 1) &&& ((BitVec.ofBool c).setWidth 8 <<< 7) = 0#8 := by
    ext k hk
    rcases Nat.lt_or_ge k 7 with hk7 | hk7
    · simp [hk7]
    · simp [BitVec.getLsbD_of_ge v (1 + k) (by omega)]
  have hc := c.toNat_le
  have hv := v.isLt
  rw [← BitVec.add_eq_or_of_and_eq_zero _ _ hfree, BitVec.toNat_add, ushiftRight_one_toNat, BitVec.toNat_shiftLeft,
    ofBool_setWidth_toNat, Nat.shiftLeft_eq]
  omega

/-- Settles O51: each shift puts back a byte that is the number the rule says, on A or in memory, with C from the byte
it was. -/
theorem shiftRules : Obligations.ShiftRules := by
  intro b w s onA onMemory asl lsr rol ror
  have shift {i : Instr} {op : Byte} {rows : List MemRow} {val : Byte → Flags → Byte} {out : Nat} {n : Byte → Nat}
      (henc : encode i = [op])
      (hexec : exec i s = modifyAcc (fun v fl => shifted (val v fl) (v.getLsbD out) fl) 1 2 s)
      (hrows : ∀ r ∈ rows, r.ModifiesBy fun v fl => shifted (val v fl) (v.getLsbD out) fl)
      (hval : ∀ v, (val v s.flags).toNat = n v) : onA i op n out ∧ ∀ r ∈ rows, onMemory r n out := by
    refine ⟨⟨henc, _, hexec, hval s.a, rfl, NZ_of_flags_eq rfl, rfl, rfl,
      ((s.setA_frame _).append (State.setFlags_setNZ_carry_frame _ _ _)).append (State.finish_frame _ 1 2)⟩,
      fun r hr => ?_⟩
    obtain ⟨henc, t, hexec, hflags, hframes⟩ :=
      (hrows r hr).modify (fun v u => u.setFlags_setNZ_carry_frame _ (v.getLsbD out)) s
    dsimp only [onMemory]
    rw [← hval, BitVec.ofNat_toNat, BitVec.setWidth_eq]
    exact ⟨henc, t, hexec, congrArg Flags.c hflags, NZ_of_flags_eq hflags, hframes⟩
  exact ⟨shift (val := fun v _ => v <<< 1) rfl rfl (aslRows_modifyBy b w) shiftLeft_one_toNat,
    shift (val := fun v _ => v >>> 1) rfl rfl (lsrRows_modifyBy b w) ushiftRight_one_toNat,
    shift (val := fun v fl => (v <<< 1) ||| (BitVec.ofBool fl.c).setWidth 8) rfl rfl (rolRows_modifyBy b w)
      (rotateLeft_toNat · s.flags.c),
    shift (val := fun v fl => (v >>> 1) ||| ((BitVec.ofBool fl.c).setWidth 8 <<< 7)) rfl rfl (rorRows_modifyBy b w)
      (rotateRight_toNat · s.flags.c)⟩

end Sys2Proof.Machine
end

section
/-! PROOFS. What the control transfers and the flag instructions are made of: frames of the PC, NMI and cycle updates
and of a flag write, an operand word's bytes, and what taking an exception leaves on the stack and in PC
(42_control_system.md R190 to R211; 60_exceptions.md R235). -/

namespace Sys2Proof.Machine

variable {s : State} {l : List Field} {f : Flags} {vec : Word} {v : Byte}

theorem State.setPc_frame (s : State) (w : Word) : AgreeExcept [.pc] s (s.setPc w) := by
  intro f hf
  cases f <;> simp_all [agreeOn, State.ramByte]

theorem State.setNmiInService_frame (s : State) (b : Bool) : AgreeExcept [.nmiInService] s (s.setNmiInService b) := by
  intro f hf
  cases f <;> simp_all [agreeOn, State.ramByte]

theorem State.addCycles_frame (s : State) (c : Nat) : AgreeExcept [.cycles] s (s.addCycles c) := by
  intro f hf
  cases f <;> simp_all [agreeOn, State.ramByte]

/-- A control transfer ends with PC and the cycles alone (R190, R199). -/
theorem State.jump_frame (s : State) (w : Word) (c : Nat) : AgreeExcept [.pc, .cycles] s (s.jump w c) :=
  (s.setPc_frame w).append (State.addCycles_frame _ c)

/-- A flag write touches the flags it changes and nothing else. -/
theorem RegistersBut.setFlags_frame (h : RegistersBut l s (s.setFlags f)) : AgreeExcept l s (s.setFlags f) := by
  have hflags : [.n, .v, .d, .i, .z, .c] ⊆ registerFields := by decide
  exact (s.setFlags_frame f).narrow fun _ hg => h _ (hflags hg)

/-- An operand word's bytes as the rules' encodings write them, low byte first (20_memory.md R60). -/
theorem wordBytes_eq (w : Word) : wordBytes w = [w.setWidth 8, (w >>> 8).setWidth 8] := by
  have hlo : lo8 w = w.setWidth 8 := BitVec.eq_of_toNat_eq (by rw [lo8_toNat, BitVec.toNat_setWidth])
  have hhi : hi8 w = (w >>> 8).setWidth 8 := BitVec.eq_of_toNat_eq (by
    rw [hi8_toNat, BitVec.toNat_setWidth, BitVec.toNat_ushiftRight, Nat.shiftRight_eq_div_pow]
    have := w.isLt
    omega)
  rw [wordBytes, hlo, hhi]

/-- Two pushes touch what one does. -/
theorem State.pushWord_frame (s : State) (w : Word) : AgreeExcept [.sp, .ram, .busWrites] s (s.pushWord w) :=
  (s.push_frame _).trans (State.push_frame _ _)

/-- A return address and a status byte pushed lie in the three bytes from S down (60_exceptions.md R235). -/
theorem State.pushWord_push_pushed3 (hram : Memory.wf s.ram = true) (ret : Word) (v : Byte) :
    Pushed3 s ((s.pushWord ret).push v) ret v := by
  obtain ⟨hhi, hlo, hrest, hsp⟩ := s.pushWord_spec ret hram
  have hstatus := (s.pushWord ret).push_ramByte_eq v (State.push_wf _ _ (State.push_wf _ _ hram))
  have hkept := (s.pushWord ret).push_ramByte_ne (v := v)
  rw [hsp] at hstatus hkept
  have hsub : s.sp - 1#8 - 1#8 = s.sp - 2#8 := BitVec.sub_sub _ _ _
  refine ⟨?_, ?_, ?_, hstatus, fun w hw => ?_⟩
  · rw [State.push_sp, hsp]
    exact BitVec.sub_sub _ _ _
  · rw [hkept _ (stackAddr_sub_two_ne s.sp).symm, hhi]
  · rw [hkept _ (hsub ▸ (stackAddr_sub_one_ne (s.sp - 1#8)).symm), hlo]
  · simp only [List.mem_cons, List.not_mem_nil, or_false, not_or] at hw
    obtain ⟨h0, h1, h2⟩ := hw
    rw [hkept w h2, hrest w (by simp [h0, h1])]

/-- A push changes no vector: the stack page is not where the vectors lie (20_memory.md R66). -/
theorem State.push_vectorAt (h : 0xE000 ≤ vec.toNat) (h1 : 0xE000 ≤ (vec + 1#16).toNat) :
    (s.push v).vectorAt vec = s.vectorAt vec := by
  have high {a : Word} (ha : 0xE000 ≤ a.toNat) : a ≠ stackAddr s.sp := by
    rintro rfl
    have := stackAddr_toNat s.sp
    have := s.sp.isLt
    omega
  simp only [State.vectorAt, State.push_peek _ _ _ (high h), State.push_peek _ _ _ (high h1)]

section Enter
variable (h : 0xE000 ≤ vec.toNat) (h1 : 0xE000 ≤ (vec + 1#16).toNat)
include h h1

/-- Taking an exception goes to the word the vector held before it (60_exceptions.md R235). -/
theorem State.enter_pc (s : State) (ret : Word) (b : Bool) : (s.enter ret b vec).pc = s.vectorAt vec := by
  rw [State.enter_eq _ _ _ _ h h1, State.setPc_pc, State.pushWord]
  simp only [State.push_vectorAt h h1]

theorem State.enter_flags (s : State) (ret : Word) (b : Bool) :
    (s.enter ret b vec).flags = { s.flags with i := true } := by
  rw [State.enter_eq _ _ _ _ h h1, State.setPc_flags, State.setFlags_flags]

theorem State.enter_pushed3 (hram : Memory.wf s.ram = true) (ret : Word) (b : Bool) :
    Pushed3 s (s.enter ret b vec) ret (packP b s.flags) := by
  rw [State.enter_eq _ _ _ _ h h1]
  exact State.pushWord_push_pushed3 hram ret _

/-- Taking an exception touches the stack, I and PC. -/
theorem State.enter_frame (s : State) (ret : Word) (b : Bool) :
    AgreeExcept [.sp, .ram, .busWrites, .i, .pc] s (s.enter ret b vec) := by
  rw [State.enter_eq _ _ _ _ h h1]
  have hpush := (s.pushWord_frame ret).trans (State.push_frame _ (packP b s.flags))
  have hflags : ((s.pushWord ret).push (packP b s.flags)).flags = s.flags := by simp [State.pushWord]
  generalize (s.pushWord ret).push (packP b s.flags) = u at hpush hflags ⊢
  rw [← hflags]
  exact (hpush.append (setI_registersBut true).setFlags_frame).append (State.setPc_frame _ _)

end Enter

end Sys2Proof.Machine
end

section
/-! PROOFS. Branches and jumps: where they go, in the rules' numbers (42_control_system.md R190 to R199). -/

namespace Sys2Proof.Machine

variable (b : Byte) (w : Word)

/-- Past a branch's two bytes, modulo 65,536. -/
theorem add_two_toNat : (w + 2#16).toNat = (w.toNat + 2) % 65536 := BitVec.toNat_add w 2#16

/-- A branch's target as the rule writes it: the signed offset from past its two bytes (30_encoding.md R104). -/
theorem branchTarget_toNat : (w + 2#16 + sext16 b).toNat = (((w.toNat : Int) + 2 + b.toInt) % 65536).toNat := by
  have hsext : sext16 b = BitVec.ofInt 16 b.toInt := rfl
  rw [BitVec.toNat_add, add_two_toNat, hsext, BitVec.toNat_ofInt]
  omega

/-- The cycle a taken branch adds where its target lies on another page (30_encoding.md R112). -/
theorem crosses_toNat (a c : Word) : (crosses a c).toNat = if a.toNat / 256 ≠ c.toNat / 256 then 1 else 0 := by
  simp only [← crosses_iff, Bool.toNat, Bool.cond_eq_ite]

/-- Settles O52: each branch is `branchOp` of its condition, which jumps past itself or to its target. -/
theorem branchRules : Obligations.BranchRules := by
  intro b s next target branches
  have branch {i : Instr} {op : Byte} (cond : State → Bool) (henc : encode i = [op, b])
      (hexec : exec i s = branchOp cond b s) : branches i op (cond s) := by
    refine ⟨henc, ?_⟩
    rw [hexec, branchOp]
    cases cond s with
    | false => exact ⟨_, rfl, s.jump_frame _ _, fun _ => ⟨add_two_toNat _, rfl⟩, nofun⟩
    | true =>
      refine ⟨_, rfl, s.jump_frame _ _, nofun, fun _ => ⟨branchTarget_toNat b _, ?_⟩⟩
      rw [State.jump_cycles, crosses_toNat, branchTarget_toNat, add_two_toNat, Nat.add_assoc]
  exact ⟨branch (!·.flags.c) rfl rfl, branch (·.flags.c) rfl rfl, branch (·.flags.z) rfl rfl,
    branch (·.flags.n) rfl rfl, branch (!·.flags.z) rfl rfl, branch (!·.flags.n) rfl rfl, branch (!·.flags.v) rfl rfl,
    branch (·.flags.v) rfl rfl⟩

/-- Where `JMP (abs)` reads its target's high byte: the next address within the pointer's page (30_encoding.md R101). -/
theorem wordOf_hi8_lo8_add_one :
    wordOf (hi8 w) (lo8 w + 1#8) = BitVec.ofNat 16 (w.toNat / 256 * 256 + (w.toNat % 256 + 1) % 256) := by
  apply BitVec.eq_of_toNat_eq
  have := w.isLt
  rw [wordOf_toNat, hi8_toNat, BitVec.toNat_add, lo8_toNat, BitVec.toNat_ofNat, BitVec.toNat_ofNat]
  omega

/-- Settles O53: a jump to the operand, or to what two reads in the pointer's page give. -/
theorem jumpRules : Obligations.JumpRules := by
  intro w s
  refine ⟨⟨congrArg (0x4C#8 :: ·) (wordBytes_eq w), _, rfl, rfl, rfl, s.jump_frame w 3⟩,
    congrArg (0x6C#8 :: ·) (wordBytes_eq w), ?_⟩
  rw [← wordOf_hi8_lo8_add_one]
  exact ⟨_, rfl, rfl, by simp [State.readIndirect], State.jump_frame _ _ 5⟩

end Sys2Proof.Machine
end

section
/-! PROOFS. Subroutines, BRK and RTI: words and status bytes on the stack (42_control_system.md R200 to R203, R212). -/

namespace Sys2Proof.Machine

/-- RTS pulls a word and goes one past it, touching S and PC (R201). -/
theorem execRts_eq (s : State) :
    exec .rts s = .next ((s.setSp (s.sp + 2#8)).jump
      (wordOf (s.ramByte (stackAddr (s.sp + 2#8))) (s.ramByte (stackAddr (s.sp + 1#8))) + 1#16) 6) := by
  simp only [exec, execRts, State.pullWord_eq]

/-- Settles O54: JSR pushes a word and jumps, RTS pulls one and jumps. -/
theorem subroutineRules : Obligations.SubroutineRules := by
  intro w s
  refine ⟨fun hram => ⟨congrArg (0x20#8 :: ·) (wordBytes_eq w), ?_⟩,
    rfl, _, execRts_eq s, rfl, rfl, rfl, (s.setSp_frame _).append (State.jump_frame _ _ 6)⟩
  obtain ⟨hhi, hlo, hrest, hsp⟩ := s.pushWord_spec (s.pc + 2#16) hram
  exact ⟨_, rfl, rfl, hsp, by simp [State.pushWord], hhi, hlo, hrest,
    ((s.pushWord_frame _).append (State.jump_frame _ w 6)).mono (by decide)⟩

/-- Settles O55: RTS finds the two bytes that JSR pushed, which are the address of JSR's last byte. -/
theorem subroutineReturnsAfterTheCall : Obligations.SubroutineReturnsAfterTheCall := by
  intro w s t h hram hcall hsp hstack
  obtain ⟨-, t', hcall', -, htsp, -, hhi, hlo, -⟩ := (subroutineRules w s).1 hram
  obtain rfl : t = t' := Host.Outcome.next.inj (hcall.symm.trans hcall')
  have h1 : h.sp + 1#8 = s.sp - 1#8 := by bv_omega
  have h2 : h.sp + 2#8 = s.sp := by bv_omega
  refine ⟨_, execRts_eq h, ?_, h2⟩
  rw [State.jump_pc, h1, h2, hstack _ (by simp), hstack _ (by simp), hhi, hlo, wordOf_hi8_lo8, BitVec.add_assoc]
  rfl

/-- Settles O56: RTI is the return from an interrupt, which pulls three bytes and clears `nmi_in_service`. -/
theorem returnFromInterruptRule : Obligations.ReturnFromInterruptRule := by
  intro s
  refine ⟨rfl, s.leave.addCycles 6, rfl, ?_⟩
  rw [State.leave_eq]
  exact ⟨rfl, rfl, rfl, rfl, rfl,
    (((((s.setSp_frame _).append (State.setFlags_frame _ _)).append (State.setPc_frame _ _)).append
      (State.setNmiInService_frame _ _)).append (State.addCycles_frame _ 6)).mono (by decide)⟩

/-- Settles O57: BRK takes the exception through the IRQ vector with B = 1 and the address two past it. -/
theorem breakRule : Obligations.BreakRule := by
  intro s hram
  have hvec : 0xE000 ≤ irqVector.toNat := by decide
  have hvec1 : 0xE000 ≤ (irqVector + 1#16).toNat := by decide
  exact ⟨rfl, rfl, _, rfl, State.enter_pushed3 hvec hvec1 hram _ true, State.enter_flags hvec hvec1 s _ true,
    State.enter_pc hvec hvec1 s _ true, by simp,
    ((State.enter_frame hvec hvec1 s _ true).append (State.addCycles_frame _ 7)).mono (by decide)⟩

/-- Settles O58: each flag instruction is a flag write of which only its one flag is left, and the end of the
instruction; NOP is that end alone. -/
theorem flagAndNopRules : Obligations.FlagAndNopRules := by
  intro s ends
  have flag {i : Instr} {op : Byte} {f : Flags} {field : Field} (value : Flags → Bool)
      (hf : RegistersBut [field] s (s.setFlags f)) (henc : encode i = [op])
      (hexec : exec i s = .next ((s.setFlags f).finish 1 2)) :
      ∃ t, ends i op t ∧ value t.flags = value f ∧ AgreeExcept [field, .pc, .cycles] s t :=
    ⟨_, ⟨henc, hexec, rfl, rfl⟩, rfl, hf.setFlags_frame.append (State.finish_frame _ 1 2)⟩
  exact ⟨⟨_, ⟨rfl, rfl, rfl, rfl⟩, s.finish_frame 1 2⟩,
    flag (·.c) (setC_registersBut false) rfl rfl, flag (·.c) (setC_registersBut true) rfl rfl,
    flag (·.i) (setI_registersBut false) rfl rfl, flag (·.i) (setI_registersBut true) rfl rfl,
    flag (·.d) (setD_registersBut false) rfl rfl, flag (·.d) (setD_registersBut true) rfl rfl,
    flag (·.v) (setV_registersBut false) rfl rfl⟩

end Sys2Proof.Machine
end

section
/-! PROOFS. The interrupt lines and the sampling point: which sources assert which line, and what is taken
(60_exceptions.md R232, R233, R245). -/

namespace Sys2Proof.Machine

variable {s : State}

/-- A timer asserts its line where it is pending and enabled (R245, R259). -/
theorem Timer.line_iff {t : Timer} : t.line = true ↔ t.pending = true ∧ t.irqEnable = true := by
  rw [Timer.line, Bool.and_eq_true]

/-- The video chip asserts its line where it is pending and enabled (R245, R278). -/
theorem Video.line_iff {v : Video} : v.line = true ↔ v.pending = true ∧ v.irqEnable = true := by
  rw [Video.line, Bool.and_eq_true]

/-- Settles O9: each line is the OR of the sources of its class, and a source asserts its own line where it is pending
and enabled. -/
theorem interruptLines : Obligations.InterruptLines := by
  intro s
  simp only [State.irqLine, State.nmiLine, Bool.or_eq_true, Bool.and_eq_true, Bool.not_eq_true', Timer.line_iff,
    Video.line_iff, or_assoc, and_self]

theorem State.takesNmi_iff : s.takesNmi = true ↔ s.nmiLine = true ∧ s.nmiInService = false := by
  rw [State.takesNmi, Bool.and_eq_true, Bool.not_eq_true']

theorem State.takesIrq_iff : s.takesIrq = true ↔ s.irqLine = true ∧ s.flags.i = false ∧ s.takesNmi = false := by
  simp only [State.takesIrq, Bool.and_eq_true, Bool.not_eq_true', and_comm, and_left_comm]

theorem State.interruptEntry_eq_none_iff : s.interruptEntry = none ↔ s.takesNmi = false ∧ s.takesIrq = false := by
  unfold State.interruptEntry
  split_ifs with hnmi hirq
  · simp [hnmi]
  · simp [hirq]
  · simp [hnmi, hirq]

/-- With no NMI source the NMI line is never asserted (R245). -/
theorem State.takesNmi_of_no_source (h0 : s.params.nmiTimer0 = false) (h1 : s.params.nmiTimer1 = false)
    (hv : s.params.nmiVideo = false) : s.takesNmi = false := by
  simp [State.takesNmi, State.nmiLine, h0, h1, hv]

/-- Settles O11: the two lines with what masks each, and an entry is made where one of them is taken. -/
theorem interruptSampling : Obligations.InterruptSampling := fun _ =>
  ⟨State.takesNmi_iff, State.takesIrq_iff, State.interruptEntry_eq_none_iff, State.takesNmi_of_no_source⟩

end Sys2Proof.Machine
end

section
/-! PROOFS. The interrupt entry: a step that takes an interrupt is the exception through its vector, 7 cycles and the
chips' advance; RTI undoes it (60_exceptions.md R234 to R237, R242). -/

namespace Sys2Proof.Machine

variable {s t u : State}

theorem State.beginStep_frame (s : State) : AgreeExcept [.busWrites] s s.beginStep := by
  intro f hf
  cases f <;> simp_all [agreeOn, State.ramByte]

/-- The advance of the chips touches no other piece of the machine (R244). -/
theorem State.advanceChips_frame (c : Nat) (s : State) :
    AgreeExcept [.timer0, .timer1, .video] s (State.advanceChips c s) := by
  intro f hf
  cases f <;> simp_all [agreeOn, State.ramByte]

/-- What was pushed is a matter of S and RAM. -/
theorem Pushed3.congr {ret : Word} {v : Byte} (h : Pushed3 s t ret v) (hsp : u.sp = t.sp) (hram : u.ram = t.ram) :
    Pushed3 s u ret v := by
  simpa only [Pushed3, SameRamBut, State.ramByte, hsp, hram] using h

/-- The machine after an entry through `vec` with `nmi` for the service bit, before the chips advance. -/
def State.entered (s : State) (vec : Word) (nmi : Bool) : State :=
  ((s.enter s.pc false vec).setNmiInService nmi).addCycles entryCycles

theorem State.interruptEntry_of_takesNmi (h : s.takesNmi = true) :
    s.interruptEntry = some (s.entered nmiVector true) := by
  rw [State.interruptEntry, if_pos h, State.entered]

theorem State.interruptEntry_of_takesIrq (h : s.takesIrq = true) :
    s.interruptEntry = some (s.entered irqVector s.nmiInService) := by
  have hnmi : s.takesNmi = false := (State.takesIrq_iff.1 h).2.2
  have hkept : (s.enter s.pc false irqVector).nmiInService = s.nmiInService :=
    State.enter_frame (by decide) (by decide) s s.pc false .nmiInService (by decide)
  rw [State.interruptEntry, if_neg (by simp [hnmi]), if_pos h, State.entered, ← hkept]
  rfl

/-- A step that takes an interrupt: the entry from the beginning of the step, then 7 ticks of the chips (R236). -/
theorem step_of_interruptEntry {vec : Word} {nmi : Bool} (hrun : s.run = .running)
    (h : s.beginStep.interruptEntry = some (s.beginStep.entered vec nmi)) :
    step s = .next (State.advanceChips 7 (s.beginStep.entered vec nmi)) := by
  have hcycles : (s.beginStep.entered vec nmi).cycles - s.beginStep.cycles = 7 := by
    simp [State.entered, entryCycles]
  rw [step_of_running s hrun, h]
  simp only [State.endStep, hcycles]

/-- What an interrupt entry through `vec` does, with `nmi` for the service bit (R235, R236). -/
structure EnteredThrough (vec : Word) (nmi : Bool) (s t : State) : Prop where
  pushed : Pushed3 s t s.pc (packP false s.flags)
  flags : t.flags = { s.flags with i := true }
  cycles : t.cycles = s.cycles + 7
  timer0 : t.timer0 = Timer.ticks 7 s.timer0
  timer1 : t.timer1 = Timer.ticks 7 s.timer1
  video : t.video = Video.ticks s.params 7 s.video
  pc : t.pc = s.vectorAt vec
  nmiInService : t.nmiInService = nmi
  frame : AgreeExcept [.sp, .pc, .i, .nmiInService, .cycles, .ram, .timer0, .timer1, .video, .busWrites] s t

/-- The entry and the chips' 7 ticks, through a vector in the KERNAL's range. -/
theorem enteredThrough_advanceChips {vec : Word} (h : 0xE000 ≤ vec.toNat) (h1 : 0xE000 ≤ (vec + 1#16).toNat)
    (hram : Memory.wf s.ram = true) (nmi : Bool) :
    EnteredThrough vec nmi s (State.advanceChips 7 (s.beginStep.entered vec nmi)) := by
  have hpushed := State.enter_pushed3 h h1 (s := s.beginStep) hram s.pc false
  have hentered : AgreeExcept [.busWrites, .sp, .ram, .busWrites, .i, .pc, .nmiInService, .cycles] s
      (s.beginStep.entered vec nmi) :=
    ((s.beginStep_frame.append (State.enter_frame h h1 _ _ _)).append (State.setNmiInService_frame _ _)).append
      (State.addCycles_frame _ _)
  have htimer0 : (s.beginStep.entered vec nmi).timer0 = s.timer0 := hentered .timer0 (by decide)
  have htimer1 : (s.beginStep.entered vec nmi).timer1 = s.timer1 := hentered .timer1 (by decide)
  have hvideo : (s.beginStep.entered vec nmi).video = s.video := hentered .video (by decide)
  have hparams : (s.beginStep.entered vec nmi).params = s.params := hentered .params (by decide)
  exact {
    pushed := hpushed.congr (State.advanceChips_sp _ _) (State.advanceChips_ram _ _)
    flags := (State.advanceChips_flags _ _).trans (State.enter_flags h h1 _ _ _)
    cycles := by simp [State.entered, entryCycles]
    timer0 := by rw [State.advanceChips_timer0, htimer0]
    timer1 := by rw [State.advanceChips_timer1, htimer1]
    video := by rw [State.advanceChips_video, hparams, hvideo]
    pc := (State.advanceChips_pc _ _).trans (State.enter_pc h h1 _ _ _)
    nmiInService := State.advanceChips_nmiInService _ _
    frame := (hentered.append (State.advanceChips_frame 7 _)).mono (by decide) }

/-- An NMI taken goes through $FFFA and is in service then (R235, R237). -/
theorem step_of_takesNmi (hrun : s.run = .running) (hram : Memory.wf s.ram = true) (h : s.takesNmi = true) :
    ∃ t, step s = .next t ∧ EnteredThrough nmiVector true s t :=
  ⟨_, step_of_interruptEntry hrun (State.interruptEntry_of_takesNmi h),
    enteredThrough_advanceChips (by decide) (by decide) hram true⟩

/-- An IRQ taken goes through $FFFE and leaves the service bit (R235, R237). -/
theorem step_of_takesIrq (hrun : s.run = .running) (hram : Memory.wf s.ram = true) (h : s.takesIrq = true) :
    ∃ t, step s = .next t ∧ EnteredThrough irqVector s.nmiInService s t :=
  ⟨_, step_of_interruptEntry hrun (State.interruptEntry_of_takesIrq h),
    enteredThrough_advanceChips (by decide) (by decide) hram s.nmiInService⟩

/-- Settles O10: an NMI to take goes first; without one, the IRQ is what is taken. -/
theorem interruptEntry : Obligations.InterruptEntry := by
  intro s hwf hrun hline
  obtain ⟨hram, -⟩ := (State.wf_iff.1 hwf).1
  by_cases hnmi : s.nmiLine = true ∧ s.nmiInService = false
  · obtain ⟨t, ht, e⟩ := step_of_takesNmi hrun hram (State.takesNmi_iff.2 hnmi)
    refine ⟨t, ht, e.pushed, e.flags, e.cycles, e.timer0, e.timer1, e.video, ?_, e.frame⟩
    rw [if_pos hnmi]
    exact ⟨e.pc, e.nmiInService⟩
  · obtain ⟨hirq, hi⟩ := hline.resolve_left hnmi
    have hnot : s.takesNmi = false := Bool.eq_false_iff.2 (mt State.takesNmi_iff.1 hnmi)
    obtain ⟨t, ht, e⟩ := step_of_takesIrq hrun hram (State.takesIrq_iff.2 ⟨hirq, hi, hnot⟩)
    refine ⟨t, ht, e.pushed, e.flags, e.cycles, e.timer0, e.timer1, e.video, ?_, e.frame⟩
    rw [if_neg hnmi]
    exact ⟨e.pc, e.nmiInService⟩

/-- RTI finds what was pushed: with S and the three bytes as an entry left them it restores S, PC and the flags
(R242; 42_control_system.md R202). -/
theorem execRti_of_pushed3 {h : State} {ret : Word} {f : Flags} {b : Bool} (hp : Pushed3 s t ret (packP b f))
    (hsp : h.sp = t.sp)
    (hstack : ∀ k ∈ [s.sp, s.sp - 1#8, s.sp - 2#8], h.ramByte (stackAddr k) = t.ramByte (stackAddr k)) :
    ∃ u, exec .rti h = .next u ∧ u.pc = ret ∧ u.sp = s.sp ∧ u.flags = f ∧ u.nmiInService = false := by
  obtain ⟨htsp, hhi, hlo, hstatus, -⟩ := hp
  have h1 : h.sp + 1#8 = s.sp - 2#8 := by bv_omega
  have h2 : h.sp + 2#8 = s.sp - 1#8 := by bv_omega
  have h3 : h.sp + 3#8 = s.sp := by bv_omega
  refine ⟨h.leave.addCycles 6, rfl, ?_⟩
  rw [State.leave_eq, h1, h2, h3, hstack _ (by simp), hstack _ (by simp), hstack _ (by simp), hhi, hlo, hstatus,
    wordOf_hi8_lo8, unpackP_packP]
  exact ⟨rfl, rfl, rfl, rfl⟩

/-- Settles O13: an entry pushes PC and the packed flags, which is what RTI pulls. -/
theorem returnRestoresTheInterruptedProgram : Obligations.ReturnRestoresTheInterruptedProgram := by
  intro s t h hwf hrun hline hstep hsp hstack
  obtain ⟨t', ht', hpushed, -⟩ := interruptEntry s hwf hrun hline
  obtain rfl : t = t' := Host.Outcome.next.inj (hstep.symm.trans ht')
  exact execRti_of_pushed3 hpushed hsp hstack

end Sys2Proof.Machine
end

section
/-! PROOFS. A running machine's step said once by its cases; the service bit without NMI sources, the instruction a step
runs, and the halt that stays (60_exceptions.md R231, R233, R240, R244). -/

namespace Sys2Proof.Machine

variable {s t : State}

/-- The three ways of a running machine's step: an interrupt entry, the halt at an illegal opcode, an instruction; the
first and the last end with the chips' advance (R231). -/
theorem stepRunning_cases (e : stepRunning s = .next t) :
    (∃ u, s.interruptEntry = some u ∧ t = s.endStep u) ∨
    (∃ op u, s.fetch = .illegal op u ∧ t = u.halt op) ∨
    (∃ i u v, s.fetch = .instr i u ∧ exec i u = .next v ∧ t = u.endStep v) := by
  unfold stepRunning at e
  split at e
  · rename_i u hu
    cases e
    exact .inl ⟨u, hu, rfl⟩
  · split at e
    · rename_i op u hu
      cases e
      exact .inr (.inl ⟨op, u, hu, rfl⟩)
    · rename_i i u hu
      unfold runInstr at e
      split at e <;> cases e
      rename_i v hv
      exact .inr (.inr ⟨i, u, v, hu, hv, rfl⟩)

/-- Nothing an instruction is made of puts an NMI in service: only the entry of one does (R237). -/
theorem keptByOps_nmiNotInService : KeptByOps fun s t => s.nmiInService = false → t.nmiInService = false where
  refl _ h := h
  trans h h' := h' ∘ h
  setA _ _ h := h
  setX _ _ h := h
  setY _ _ h := h
  setSp _ _ h := h
  setPc _ _ h := h
  setFlags _ _ h := h
  clearNmi _ _ := rfl
  addCycles _ _ h := h
  nextDraw _ h := h
  afterRead s a h := (s.afterRead_nmiInService a).trans h
  busWrite s a v h := (s.busWrite_nmiInService a v).trans h

/-- An entry without an NMI to take is that of an IRQ, which keeps the service bit (R237). -/
theorem State.interruptEntry_nmiInService (hn : s.takesNmi = false) (e : s.interruptEntry = some t) :
    t.nmiInService = s.nmiInService := by
  have hirq : s.takesIrq = true := by
    by_contra hirq
    rw [State.interruptEntry_of_not_takes hn (Bool.eq_false_iff.2 hirq)] at e
    cases e
  rw [State.interruptEntry_of_takesIrq hirq] at e
  cases e
  rfl

/-- A running machine's step with no NMI to take puts none in service. -/
theorem stepRunning_nmiInService (hn : s.takesNmi = false) (hs : s.nmiInService = false)
    (e : stepRunning s = .next t) : t.nmiInService = false := by
  obtain ⟨u, hu, rfl⟩ | ⟨op, u, hu, rfl⟩ | ⟨i, u, v, hu, hv, rfl⟩ := stepRunning_cases e
  · exact (State.advanceChips_nmiInService _ _).trans ((State.interruptEntry_nmiInService hn hu).trans hs)
  · exact (u.halt_nmiInService op).trans (keptByOps_nmiNotInService.fetch_illegal hu hs)
  · exact (State.advanceChips_nmiInService _ _).trans
      (keptByOps_nmiNotInService.exec hv (keptByOps_nmiNotInService.fetch_instr hu hs))

/-- Settles O12: without a source no NMI is taken, and nothing else puts one in service. -/
theorem noNmiWithoutSources : Obligations.NoNmiWithoutSources := by
  intro s t h0 h1 hv hs e
  refine ⟨?_, (keptByStep_rom_params.step e).2⟩
  cases hrun : s.run with
  | halted op a =>
    rw [step_of_halted s hrun] at e
    cases e
    exact hs
  | running =>
    simp only [step, hrun] at e
    exact stepRunning_nmiInService (s := s.beginStep) (State.takesNmi_of_no_source h0 h1 hv) hs e

/-- Reads change no piece of the machine but the chips and the draw index. -/
theorem State.afterReads_frame (s : State) (n : Nat) (a : Word) :
    AgreeExcept [.timer0, .timer1, .video, .drawIndex] s (s.afterReads n a) := by
  induction n generalizing s a with
  | zero => exact .refl s _
  | succ n ih => exact (s.afterRead_frame a).trans (ih _ _)

theorem State.beginStep_afterReads (s : State) (n : Nat) (a : Word) :
    s.beginStep.afterReads n a = (s.afterReads n a).beginStep := by
  induction n generalizing s a with
  | zero => rfl
  | succ n ih => rw [State.afterReads, State.beginStep_afterRead, ih, State.afterReads]

/-- Emptying the write list changes no byte a fetch reads. -/
theorem State.beginStep_codeBytes (s : State) : s.beginStep.codeBytes = s.codeBytes := by
  simp only [State.codeBytes, State.beginStep_afterReads, State.beginStep_peek, State.beginStep_pc]

/-- A fetch reads the instruction that the bytes at PC decode to, one bus read a byte (30_encoding.md R90, R105;
20_memory.md R72). -/
theorem State.fetch_of_decode {i : Instr} {rest : List Byte} (e : decode s.codeBytes = .ok (i, rest)) :
    s.fetch = .instr i (s.afterReads (encode i).length s.pc) := by
  obtain ⟨op, sh, operands, hsh, hb, hbytes⟩ := exists_builds_of_decode e
  rw [encode_of_builds hsh hb]
  have hpc2 : s.pc + 1#16 + 1#16 = s.pc + 2#16 := by rw [BitVec.add_assoc]; rfl
  obtain ⟨hop, htail⟩ := List.cons.inj hbytes
  rw [← hop] at hsh
  cases sh with
  | implied j =>
    obtain ⟨rfl, rfl⟩ := hb
    simp only [State.fetch, State.busRead, hsh]
    rfl
  | byte mk =>
    obtain ⟨b, rfl, rfl⟩ := hb
    obtain ⟨hb, -⟩ := List.cons.inj htail
    simp only [State.fetch, State.busRead, hsh, ← hb]
    rfl
  | word mk =>
    obtain ⟨w, rfl, rfl⟩ := hb
    obtain ⟨hlo, htail⟩ := List.cons.inj htail
    obtain ⟨hhi, -⟩ := List.cons.inj htail
    have hw : wordOf ((s.afterReads 2 s.pc).peek (s.pc + 2#16)) ((s.afterReads 1 s.pc).peek (s.pc + 1#16)) = w := by
      rw [hlo, hhi, wordOf_hi8_lo8]
    simp only [State.fetch, State.read16, State.busRead, hsh, hpc2, ← hw]
    simp only [State.afterReads, List.length_cons, wordBytes, List.length_nil, hpc2]

/-- Settles O6: with no interrupt to take the step runs what its fetch decodes, and ends with the chips' advance by the
cycles that counted. -/
theorem stepRunsTheFetchedInstruction : Obligations.StepRunsTheFetchedInstruction := by
  intro s i rest hrun hn hi hdecode
  have hentry : s.beginStep.interruptEntry = none := State.interruptEntry_of_not_takes hn hi
  have hfetch := State.fetch_of_decode ((congrArg decode s.beginStep_codeBytes).trans hdecode)
  have hreads := s.beginStep.afterReads_frame (encode i).length s.pc
  rw [State.beginStep_pc] at hfetch
  generalize s.beginStep.afterReads (encode i).length s.pc = r at hfetch hreads ⊢
  have hcycles : r.cycles = s.cycles := hreads .cycles (by decide)
  have hrparams : r.params = s.params := hreads .params (by decide)
  obtain ⟨t, ht⟩ := exec_next i r
  have htparams : t.params = s.params := (keptByStep_rom_params.exec ht).2.trans hrparams
  refine ⟨t, State.advanceChips (t.cycles - s.cycles) t, ht, ?_, State.advanceChips_timer0 _ _,
    State.advanceChips_timer1 _ _, ?_, State.advanceChips_frame _ _⟩
  · rw [step_of_running s hrun, hentry, hfetch]
    simp only [runInstr, ht, State.endStep, hcycles]
  · rw [State.advanceChips_video, htparams]

/-- Steps of a halted machine answer it again (R240). -/
theorem run_of_halted {op : Byte} {a : Word} (h : s.run = .halted op a) (k : Nat) :
    Host.Core.run core k s = .next s := by
  have hstep : core.step s = .next s := step_of_halted s h
  induction k with
  | zero => rfl
  | succ k ih => simp only [Host.Core.run, hstep, ih]

/-- Settles O8: a halted machine's step answers it again, and a reset leaves a running machine. -/
theorem haltIsSticky : Obligations.HaltIsSticky := fun _ _ _ h => ⟨run_of_halted h, State.resetEvent_run⟩

end Sys2Proof.Machine
end

section
/-! PROOFS. Bits at either end of a register byte: the bit set apart at the top, and the status bytes of the chips
(60_exceptions.md R254, R267, R269, R271). -/

namespace Sys2Proof.Machine

/-- The highest bit as a number is what division by its weight leaves. -/
theorem toNat_getLsbD_top {n : Nat} (x : BitVec (n + 1)) : (x.getLsbD n).toNat = x.toNat / 2 ^ n := by
  have hlt : x.toNat / 2 ^ n < 2 := Nat.div_lt_of_lt_mul (by rw [← Nat.pow_succ]; exact x.isLt)
  rw [BitVec.getLsbD, Nat.testBit_eq_decide_div_mod_eq, Nat.mod_eq_of_lt hlt]
  interval_cases x.toNat / 2 ^ n <;> rfl

/-- One bit set before `n` others counts for `2 ^ n`. -/
theorem toNat_ofBool_append {n : Nat} (b : Bool) (x : BitVec n) :
    (BitVec.ofBool b ++ x).toNat = b.toNat * 2 ^ n + x.toNat := by
  rw [BitVec.toNat_append, BitVec.toNat_ofBool, ← Nat.shiftLeft_add_eq_or_of_lt x.isLt, Nat.shiftLeft_eq]

/-- A status byte's bits: the line on top, `pending` at the bottom, drawn bits between (R254, R269). -/
theorem statusByte_bits (line pending : Bool) (draw : Byte) :
    (statusByte line pending draw).getLsbD 7 = line ∧ (statusByte line pending draw).getLsbD 0 = pending ∧
      ∀ k, 1 ≤ k → k ≤ 6 → (statusByte line pending draw).getLsbD k = draw.getLsbD k := by
  simp only [statusByte, BitVec.getLsbD_append, BitVec.getLsbD_ofBool, BitVec.getLsbD_extractLsb']
  refine ⟨by simp, by simp, fun k hlo hhi => ?_⟩
  interval_cases k <;> simp

end Sys2Proof.Machine
end

section
/-! PROOFS. The registers of the timer chips: what a bus access in a timer's window does to that chip, said for both,
then offset by offset (60_exceptions.md R252 to R257). -/

namespace Sys2Proof.Machine

/-- The chip that the statements call `second` or not. -/
def State.timer (s : State) (second : Bool) : Timer := if second then s.timer1 else s.timer0

/-- The region of a timer chip's window. -/
def timerRegion (second : Bool) : Region := if second then .timer1 else .timer0

/-- A timer chip's name, by which it draws. -/
def timerChip (second : Bool) : Chip := if second then .timer1 else .timer0

section Access
variable {s : State} {a : Word} {second : Bool} (hr : s.regionOf a = timerRegion second)
include hr

theorem State.peek_timer :
    s.peek a = (s.timer second).readByte (timerChip second) (timerOff a) s.drawIndex := by
  cases second <;> simp only [State.peek, hr, timerRegion] <;> rfl

theorem State.timer_afterRead : (s.afterRead a).timer second = (s.timer second).afterRead (timerOff a) := by
  cases second <;> simp [State.afterRead, hr, timerRegion, State.timer]

theorem State.afterRead_timer_drawIndex :
    (s.afterRead a).drawIndex = s.drawIndex + (Timer.draws (timerOff a)).toNat := by
  cases second <;> simp only [State.afterRead, hr, timerRegion] <;> cases Timer.draws (timerOff a) <;> rfl

theorem State.afterRead_timer_frame :
    AgreeExcept [if second then .timer1 else .timer0, .drawIndex] s (s.afterRead a) := by
  have hframe := s.afterRead_frame_region a
  rw [hr] at hframe
  cases second <;> exact hframe

/-- A read that takes no draw is of an offset without read effect, and leaves the machine as it was (R252, R253). -/
theorem State.afterRead_of_timer_no_draw (h : Timer.draws (timerOff a) = false) : s.afterRead a = s := by
  have hoff : timerOff a ≠ 0xD#4 := fun hoff => by simp [hoff, Timer.draws] at h
  cases second <;> simp [State.afterRead, hr, timerRegion, h, State.drawIf, Timer.afterRead, hoff]

theorem State.timer_busWrite (v : Byte) :
    (s.busWrite a v).timer second = (s.timer second).write (timerOff a) v := by
  cases second <;> simp [State.busWrite, State.writeRegion, hr, timerRegion, State.timer]

end Access

/-- The control byte as it is read: the stored bits, bit 4 as 0, run mode and start (R253). -/
theorem Timer.control_bits {t : Timer} (h : t.wf = true) :
    t.control &&& 0xE6#8 = t.ctrlOther ∧ t.control.getLsbD 4 = false ∧ t.control.getLsbD 3 = t.oneshot ∧
      t.control.getLsbD 0 = t.running := by
  have hall : ∀ (c : Byte) (o r : Bool), c &&& 0x19#8 = 0#8 →
      let b := c ||| ((BitVec.ofBool o).setWidth 8 <<< 3) ||| (BitVec.ofBool r).setWidth 8
      b &&& 0xE6#8 = c ∧ b.getLsbD 4 = false ∧ b.getLsbD 3 = o ∧ b.getLsbD 0 = r := by
    decide +kernel
  exact hall _ _ _ (of_decide_eq_true h)

theorem lo8_hi8_eq_setWidth (w : Word) : lo8 w = w.setWidth 8 ∧ hi8 w = (w >>> 8).setWidth 8 := by
  simpa only [wordBytes, List.cons.injEq, and_true] using wordBytes_eq w

/-- Settles O28: the counter bytes and the control byte are reads without effect; the status byte is read before its
clear, and a second read finds the cleared chip. -/
theorem timerRegisterReads : Obligations.TimerRegisterReads := by
  intro s a second chip name hr hwf
  have hpeek : s.peek a = (chip s).readByte name (timerOff a) s.drawIndex := State.peek_timer hr
  have hquiet := State.afterRead_of_timer_no_draw (second := second) hr
  simp only [State.busRead, Prod.mk.injEq]
  refine ⟨fun ha => ?_, fun ha => ?_, fun ha => ?_, fun ha => ?_⟩ <;>
    rw [timerOff_eq_ofNat, ha] at hpeek hquiet
  · exact ⟨hpeek.trans (lo8_hi8_eq_setWidth _).1, hquiet rfl⟩
  · exact ⟨hpeek.trans (lo8_hi8_eq_setWidth _).2, hquiet rfl⟩
  · rw [hpeek]
    exact ⟨hquiet rfl, Timer.control_bits hwf⟩
  · have hafter : chip (s.afterRead a) = (chip s).afterRead (timerOff a) := State.timer_afterRead hr
    have hdraw := State.afterRead_timer_drawIndex (second := second) hr
    have hpeek2 : (s.afterRead a).peek a =
        (chip (s.afterRead a)).readByte name (timerOff a) (s.afterRead a).drawIndex :=
      State.peek_timer ((s.afterRead_regionOf a a).trans hr)
    rw [hafter, timerOff_eq_ofNat, ha] at hpeek2
    rw [timerOff_eq_ofNat, ha] at hafter hdraw
    obtain ⟨h7, h0, hbits⟩ := statusByte_bits (chip s).line (chip s).pending (Config.ioDraw name 13 s.drawIndex)
    obtain ⟨h7', h0', -⟩ := statusByte_bits false false (Config.ioDraw name 13 (s.afterRead a).drawIndex)
    rw [hpeek, hpeek2]
    exact ⟨h7, h0, hbits, hafter, hdraw, State.afterRead_timer_frame hr, h7', h0'⟩

/-- Settles O29: the write at each of the four offsets, the latch's halves as numbers. -/
theorem timerRegisterWrites : Obligations.TimerRegisterWrites := by
  intro s a v second hr t u
  have hu : u = t.write (timerOff a) v := State.timer_busWrite hr v
  clear_value u
  refine ⟨fun ha => ?_, fun ha => ?_, fun ha => ?_, fun ha => ?_⟩ <;>
    (rw [timerOff_eq_ofNat, ha] at hu; subst hu)
  · refine ⟨?_, rfl⟩
    change (wordOf (hi8 t.latch) v).toNat = _
    rw [wordOf_toNat, hi8_toNat]
  · refine ⟨?_, fun hrun => ?_, fun hrun => ?_⟩
    · change (wordOf v (lo8 t.latch)).toNat = _
      rw [wordOf_toNat, lo8_toNat]
    · simp [Timer.write, Timer.writeHigh, hrun]
    · simp [Timer.write, Timer.writeHigh, hrun]
  · rfl
  · exact ⟨rfl, rfl, rfl, rfl, rfl, rfl, rfl⟩

end Sys2Proof.Machine
end

section
/-! PROOFS. The registers of the video chip: what a bus access in its window does to it, then offset by offset
(60_exceptions.md R267 to R274). -/

namespace Sys2Proof.Machine

section Access
variable {s : State} {a : Word} (hr : s.regionOf a = .video)
include hr

theorem State.peek_video : s.peek a = s.video.readByte (videoOff a) s.drawIndex := by
  simp only [State.peek, hr]

theorem State.video_afterRead : (s.afterRead a).video = s.video.afterRead (videoOff a) := by
  simp [State.afterRead, hr]

theorem State.afterRead_video_frame : AgreeExcept [.video, .drawIndex] s (s.afterRead a) := by
  have hframe := s.afterRead_frame_region a
  rwa [hr] at hframe

/-- A read that takes no draw is of an offset without read effect, and leaves the machine as it was (R267, R268). -/
theorem State.afterRead_of_video_no_draw (h : Video.draws (videoOff a) = false) : s.afterRead a = s := by
  have hoff : videoOff a ≠ 0x19#6 := fun hoff => by simp [hoff, Video.draws] at h
  simp [State.afterRead, hr, h, State.drawIf, Video.afterRead, hoff]

theorem State.video_busWrite (b : Byte) : (s.busWrite a b).video = s.video.write (videoOff a) b := by
  simp [State.busWrite, State.writeRegion, hr]

end Access

/-- The enable register's byte: the enable at the bottom, drawn bits above it (R270). -/
theorem enableByte_bits (draw : Byte) (enable : Bool) :
    (draw.extractLsb' 1 7 ++ BitVec.ofBool enable).getLsbD 0 = enable ∧
      ∀ k, 1 ≤ k → k ≤ 7 → (draw.extractLsb' 1 7 ++ BitVec.ofBool enable).getLsbD k = draw.getLsbD k := by
  simp only [BitVec.getLsbD_append, BitVec.getLsbD_ofBool, BitVec.getLsbD_extractLsb']
  refine ⟨by simp, fun k hlo hhi => ?_⟩
  interval_cases k <;> simp

/-- Settles O31: the raster line's parts are reads without effect, the status byte is read before its clear and a second
read finds the cleared chip, and the enable is read under drawn bits. -/
theorem videoRegisterReads : Obligations.VideoRegisterReads := by
  intro s a hr
  have hpeek := State.peek_video hr
  have hquiet := State.afterRead_of_video_no_draw hr
  have hframe := State.afterRead_video_frame hr
  have hafter := State.video_afterRead hr
  have hpeek2 := State.peek_video ((s.afterRead_regionOf a a).trans hr)
  rw [hafter] at hpeek2
  simp only [State.busRead]
  refine ⟨fun ha => ?_, fun ha => ?_, fun ha => ?_, fun ha => ?_⟩ <;>
    rw [videoOff_eq_ofNat, ha] at hpeek hquiet hafter hpeek2
  · refine ⟨hquiet rfl, ?_⟩
    rw [hpeek]
    change (BitVec.ofBool (s.video.raster.getLsbD 8) ++ s.video.ctrl1Low).toNat = _
    rw [toNat_ofBool_append, toNat_getLsbD_top]
    rfl
  · refine ⟨hquiet rfl, ?_⟩
    rw [hpeek]
    exact BitVec.toNat_setWidth 8 s.video.raster
  · obtain ⟨h7, h0, hbits⟩ := statusByte_bits s.video.line s.video.pending (Config.ioDraw .video 0x19 s.drawIndex)
    obtain ⟨h7', h0', -⟩ := statusByte_bits false false (Config.ioDraw .video 0x19 (s.afterRead a).drawIndex)
    rw [hpeek, hpeek2]
    exact ⟨h7, h0, hbits, hafter, hframe, h7', h0'⟩
  · obtain ⟨h0, hbits⟩ := enableByte_bits (Config.ioDraw .video 0x1A s.drawIndex) s.video.irqEnable
    rw [hpeek]
    refine ⟨h0, hframe.narrow fun f hf hn => ?_, hbits⟩
    simp only [List.mem_cons, List.not_mem_nil, or_false] at hf hn
    obtain rfl := hf.resolve_right hn
    exact hafter

/-- Settles O32: the write at each of the four offsets, the compare latch's parts as numbers. -/
theorem videoRegisterWrites : Obligations.VideoRegisterWrites := by
  intro s a b hr v u
  have hu : u = v.write (videoOff a) b := State.video_busWrite hr b
  clear_value u
  refine ⟨fun ha => ?_, fun ha => ?_, fun ha => ?_, fun ha => ?_⟩ <;>
    (rw [videoOff_eq_ofNat, ha] at hu; subst hu)
  · refine ⟨?_, BitVec.toNat_setWidth _ _, rfl⟩
    change (BitVec.ofBool (b.getLsbD 7) ++ v.compare.setWidth 8).toNat = _
    rw [toNat_ofBool_append, toNat_getLsbD_top, BitVec.toNat_setWidth]
    rfl
  · refine ⟨?_, rfl⟩
    change (BitVec.ofBool (v.compare.getLsbD 8) ++ b).toNat = _
    rw [toNat_ofBool_append, toNat_getLsbD_top]
    rfl
  · change { v with pending := v.pending && !b.getLsbD 0 } = _
    cases b.getLsbD 0 <;> simp
  · rfl

end Sys2Proof.Machine
end

section
/-! PROOFS. The timer's ticks: a stopped timer's, the countdown, the underflow, and the period of a continuous one
(60_exceptions.md R258). -/

namespace Sys2Proof.Machine

variable {t : Timer}

theorem Timer.ticks_add (m n : Nat) (t : Timer) : Timer.ticks (m + n) t = Timer.ticks n (Timer.ticks m t) := by
  induction m generalizing t with
  | zero => rw [Nat.zero_add, Timer.ticks]
  | succ m ih => rw [Nat.succ_add, Timer.ticks, ih, Timer.ticks]

theorem Timer.ticks_succ (n : Nat) (t : Timer) : Timer.ticks (n + 1) t = (Timer.ticks n t).tick := Timer.ticks_add n 1 t

theorem Timer.ticks_of_stopped (h : t.running = false) (k : Nat) : Timer.ticks k t = t := by
  have htick : t.tick = t := if_pos h
  induction k with
  | zero => rfl
  | succ k ih => rw [Timer.ticks, htick, ih]

/-- How many ticks take a counter to 0: its value, 65,536 for 0 (R258). -/
def ticksToZero (counter : Word) : Nat := if counter = 0#16 then 65536 else counter.toNat

theorem ticksToZero_pos (c : Word) : 0 < ticksToZero c := by
  unfold ticksToZero
  split_ifs with h
  · decide
  · exact Nat.pos_of_ne_zero fun h0 => h (BitVec.eq_of_toNat_eq h0)

theorem sub_ofNat_ticksToZero (c : Word) : c - BitVec.ofNat 16 (ticksToZero c) = 0 := by
  unfold ticksToZero
  split_ifs with h
  · rw [h]; rfl
  · rw [BitVec.ofNat_toNat, BitVec.setWidth_eq, BitVec.sub_self]; rfl

/-- A counter is not at 0 between its start and the tick that takes it there. -/
theorem sub_ofNat_ne_zero {c : Word} {k : Nat} (h0 : 0 < k) (hk : k < ticksToZero c) : c - BitVec.ofNat 16 k ≠ 0 := by
  intro h
  have hc : c.toNat = k % 65536 := by bv_omega
  have hlt := c.isLt
  unfold ticksToZero at hk
  split_ifs at hk with hz
  · subst hz
    simp at hc
    omega
  · omega

theorem sub_ofNat_sub_one (c : Word) (k : Nat) : c - BitVec.ofNat 16 k - 1 = c - BitVec.ofNat 16 (k + 1) := by
  rw [BitVec.sub_sub, BitVec.ofNat_add]; rfl

/-- Before the tick that takes it to 0 a running timer only counts down. -/
theorem Timer.ticks_countdown (h : t.running = true) {k : Nat} (hk : k < ticksToZero t.counter) :
    Timer.ticks k t = { t with counter := t.counter - BitVec.ofNat 16 k } := by
  induction k with
  | zero => rw [BitVec.sub_zero]; rfl
  | succ k ih =>
    have hne := sub_ofNat_ne_zero k.succ_pos hk
    rw [Timer.ticks_succ, ih (by omega), Timer.tick, if_neg (by simp [h])]
    dsimp only
    rw [sub_ofNat_sub_one, if_neg hne]

/-- The tick that takes the counter to 0 reloads it, sets `pending` if enabled and stops a one-shot timer. -/
theorem Timer.ticks_underflow (h : t.running = true) :
    Timer.ticks (ticksToZero t.counter) t =
      { t with counter := t.latch, pending := t.pending || t.irqEnable, running := !t.oneshot } := by
  obtain ⟨m, hm⟩ := Nat.exists_eq_add_one.2 (ticksToZero_pos t.counter)
  have hzero := sub_ofNat_ticksToZero t.counter
  rw [hm] at hzero
  rw [hm, Timer.ticks_succ, Timer.ticks_countdown h (by omega), Timer.tick, if_neg (by simp [h])]
  dsimp only
  rw [sub_ofNat_sub_one, if_pos hzero, Bool.or_comm]

/-- A continuous timer at its latch is there again after each period. -/
theorem Timer.ticks_periods (hrun : t.running = true) (hone : t.oneshot = false) (hlatch : t.counter = t.latch)
    (periods : Nat) :
    Timer.ticks ((periods + 1) * ticksToZero t.latch) t = { t with pending := t.pending || t.irqEnable } := by
  obtain ⟨latch, counter, running, oneshot, ctrlOther, irqEnable, pending⟩ := t
  dsimp only at hrun hone hlatch
  subst hrun hone hlatch
  have hperiod (p : Bool) :
      Timer.ticks (ticksToZero counter) ⟨counter, counter, true, false, ctrlOther, irqEnable, p⟩ =
        ⟨counter, counter, true, false, ctrlOther, irqEnable, p || irqEnable⟩ :=
    Timer.ticks_underflow (t := ⟨counter, counter, true, false, ctrlOther, irqEnable, p⟩) rfl
  induction periods with
  | zero => rw [Nat.zero_add, Nat.one_mul]; exact hperiod pending
  | succ n ih => rw [Nat.succ_mul, Timer.ticks_add, ih, hperiod, Bool.or_assoc, Bool.or_self]

/-- Settles O33: the countdown, the underflow and its repetition. -/
theorem timerUnderflowsOnTheNthTick : Obligations.TimerUnderflowsOnTheNthTick := fun _ =>
  ⟨Timer.ticks_of_stopped, fun h => ⟨fun _ => Timer.ticks_countdown h, Timer.ticks_underflow h⟩,
    Timer.ticks_periods⟩

end Sys2Proof.Machine
end

section
/-! PROOFS. The raster counter's ticks: within a line, over its end, by batch and in closed form
(60_exceptions.md R276, R277). -/

namespace Sys2Proof.Machine

variable {p : Params} {v : Video}

theorem Video.ticks_add (p : Params) (m n : Nat) (v : Video) :
    Video.ticks p (m + n) v = Video.ticks p n (Video.ticks p m v) := by
  induction m generalizing v with
  | zero => rw [Nat.zero_add, Video.ticks]
  | succ m ih => rw [Nat.succ_add, Video.ticks, ih, Video.ticks]

theorem Video.ticks_succ (p : Params) (n : Nat) (v : Video) : Video.ticks p (n + 1) v = (Video.ticks p n v).tick p :=
  Video.ticks_add p n 1 v

/-- Ticks that do not reach the end of the line only count. -/
theorem Video.ticks_within_line {c : Nat} (h : v.lineAcc + c < p.cyclesPerLine) :
    Video.ticks p c v = { v with lineAcc := v.lineAcc + c } := by
  induction c with
  | zero => rfl
  | succ c ih =>
    rw [Video.ticks_succ, ih (by omega), Video.tick, if_neg (by dsimp only; omega)]
    rfl

/-- The tick that completes the line advances it. -/
theorem Video.ticks_to_next_line {c : Nat} (h : v.lineAcc + c = p.cyclesPerLine) (hc : 0 < c) :
    Video.ticks p c v = Video.lineAdvance p { v with lineAcc := 0 } := by
  obtain ⟨c, rfl⟩ := Nat.exists_eq_add_one.2 hc
  rw [Video.ticks_succ, Video.ticks_within_line (by omega), Video.tick]
  exact if_pos h

/-- The loop that takes whole lines off the cycles held gives what as many ticks give, with fuel for its turns. -/
theorem Video.drain_eq_ticks {fuel c : Nat} (hfuel : v.lineAcc + c ≤ fuel) (hv : v.lineAcc < p.cyclesPerLine) :
    Video.drain p fuel { v with lineAcc := v.lineAcc + c } = Video.ticks p c v := by
  induction fuel generalizing v c with
  | zero => rw [Video.ticks_within_line (by omega), Video.drain]
  | succ fuel ih =>
    rw [Video.drain]
    split_ifs with hline
    · dsimp only at hline ⊢
      obtain ⟨d, hd⟩ := Nat.exists_eq_add_of_le hline
      obtain ⟨k, hk⟩ := Nat.exists_eq_add_of_le hv.le
      obtain rfl : c = k + d := by omega
      have hacc : (Video.lineAdvance p { v with lineAcc := 0 }).lineAcc = 0 := rfl
      rw [Video.ticks_add, Video.ticks_to_next_line hk.symm (by omega), ← ih (by omega) (by omega), hd,
        Nat.add_sub_cancel_left, hacc, Nat.zero_add]
      rfl
    · exact (Video.ticks_within_line (Nat.lt_of_not_le hline)).symm

theorem Video.wf_iff : v.wf p = true ↔ v.raster.toNat < p.linesPerFrame ∧ v.lineAcc < p.cyclesPerLine := by
  simp only [Video.wf, Bool.and_eq_true, decide_eq_true_eq]

/-- Settles O34: the batch is the loop on all the cycles held, with as much fuel. -/
theorem videoBatchEqualsTicks : Obligations.VideoBatchEqualsTicks := fun _ _ _ _ hv =>
  Video.drain_eq_ticks le_rfl (Video.wf_iff.1 hv).2

/-- A tick either completes the line or counts. -/
theorem Video.tick_raster_lineAcc (hp : p.wf = true) {n : Nat} (hr : v.raster.toNat = n % p.linesPerFrame) :
    (v.tick p).raster.toNat = (n + if v.lineAcc + 1 = p.cyclesPerLine then 1 else 0) % p.linesPerFrame ∧
      (v.tick p).lineAcc = if v.lineAcc + 1 = p.cyclesPerLine then 0 else v.lineAcc + 1 := by
  unfold Video.tick
  split_ifs with h
  · refine ⟨?_, rfl⟩
    rw [Video.lineAdvance_raster hp, hr, Nat.mod_add_mod]
  · exact ⟨hr, rfl⟩

/-- A tick touches neither the compare latch nor the stored bits nor the enable. -/
theorem Video.tick_frame (p : Params) (v : Video) :
    (v.tick p).compare = v.compare ∧ (v.tick p).ctrl1Low = v.ctrl1Low ∧ (v.tick p).irqEnable = v.irqEnable := by
  unfold Video.tick
  split_ifs <;> exact ⟨rfl, rfl, rfl⟩

/-- Counting on by one carries into the quotient where the remainder comes to the divisor. -/
theorem succ_div_mod {m : Nat} (hm : 0 < m) (n : Nat) :
    (n + 1) / m = n / m + (if n % m + 1 = m then 1 else 0) ∧
      (n + 1) % m = if n % m + 1 = m then 0 else n % m + 1 := by
  rw [Nat.div_mod_unique hm]
  have hn := Nat.mod_add_div n m
  have hlt := Nat.mod_lt n hm
  split_ifs with h
  · rw [Nat.mul_add]
    omega
  · simp only [Nat.add_zero]
    omega

/-- Settles O35: by induction on the ticks, each of which carries into the raster line as the division by
`CYCLES_PER_LINE` does. -/
theorem rasterLineInClosedForm : Obligations.RasterLineInClosedForm := by
  intro p v c hp hv
  obtain ⟨hraster, hacc⟩ := Video.wf_iff.1 hv
  induction c with
  | zero =>
    refine ⟨?_, (Nat.mod_eq_of_lt hacc).symm, rfl, rfl, rfl⟩
    rw [Nat.add_zero, Nat.div_eq_of_lt hacc, Nat.add_zero, Nat.mod_eq_of_lt hraster]
    rfl
  | succ c ih =>
    obtain ⟨hr, hl, hkept⟩ := ih
    obtain ⟨hr', hl'⟩ := Video.tick_raster_lineAcc hp hr
    obtain ⟨hcompare, hctrl, henable⟩ := Video.tick_frame p (Video.ticks p c v)
    obtain ⟨hdiv, hmod⟩ := succ_div_mod (Nat.zero_lt_of_lt hacc) (v.lineAcc + c)
    rw [Video.ticks_succ, ← Nat.add_assoc, hdiv, hmod, hr', hl', hl, ← Nat.add_assoc, hcompare, hctrl, henable]
    exact ⟨rfl, rfl, hkept⟩

/-- A line advance sets `pending` where it comes to the compare value while enabled (R277). -/
theorem Video.lineAdvance_pending_iff (hp : p.wf = true) :
    (v.lineAdvance p).pending = true ↔ v.pending = true ∨
      (v.irqEnable = true ∧ v.compare.toNat = (v.raster.toNat + 1) % p.linesPerFrame) := by
  change (v.pending || (decide ((v.lineAdvance p).raster = v.compare) && v.irqEnable)) = true ↔ _
  rw [Bool.or_eq_true, Bool.and_eq_true, decide_eq_true_eq, ← BitVec.toNat_inj, Video.lineAdvance_raster hp, and_comm,
    eq_comm (a := v.compare.toNat)]

/-- Settles O36: a tick sets `pending` in its line advance alone, and no register write sets it. -/
theorem rasterMatchOnLineAdvanceOnly : Obligations.RasterMatchOnLineAdvanceOnly := by
  intro p v hp _
  refine ⟨?_, fun off b h => ?_⟩
  · unfold Video.tick
    split_ifs with hline
    · simp [Video.lineAdvance_pending_iff hp, hline]
    · simp [hline]
  · unfold Video.write
    split_ifs <;> simp [h]

end Sys2Proof.Machine
end

section
/-! PROOFS. The host's view: the address sets, the snapshot, and the run loop by induction on its turns
(60_exceptions.md R282 to R285). -/

namespace Sys2Proof.Machine

theorem mem_insertAddr {addrs : List Word} {a b : Word} : b ∈ insertAddr addrs a ↔ b = a ∨ b ∈ addrs := by
  unfold insertAddr
  split_ifs with h
  · rw [List.contains_iff_mem] at h
    exact ⟨.inr, fun hb => hb.elim (fun e => e ▸ h) id⟩
  · exact List.mem_cons

theorem insertAddr_of_mem {addrs : List Word} {a : Word} (h : a ∈ addrs) : insertAddr addrs a = addrs :=
  if_pos (List.contains_iff_mem.2 h)

/-- An address is in the set once it was inserted, so inserting it again changes nothing (R282). -/
theorem insertAddr_insertAddr (addrs : List Word) (a : Word) :
    insertAddr (insertAddr addrs a) a = insertAddr addrs a :=
  insertAddr_of_mem (mem_insertAddr.2 (.inl rfl))

/-- Settles O60: both sets are insertions, and the snapshot's byte is `PackP(0)`. -/
theorem debuggerSetsAndSnapshot : Obligations.DebuggerSetsAndSnapshot := by
  refine ⟨fun g a b => ?_, fun s => ?_⟩
  · exact ⟨congrArg (Debugger.mk · g.watchpoints) (insertAddr_insertAddr _ a),
      congrArg (Debugger.mk g.breakpoints) (insertAddr_insertAddr _ a), mem_insertAddr, mem_insertAddr, rfl, rfl⟩
  · obtain ⟨-, -, h5, h4, -⟩ := packP_bits false s.flags
    exact ⟨rfl, rfl, rfl, rfl, rfl, rfl, h4, h5, unpackP_packP false s.flags, rfl, rfl, rfl, rfl⟩

variable {g : Debugger} {s t u : State}

/-- After a step the run goes on: the machine is running and the step wrote to no watched address (R284). -/
def GoesOn (g : Debugger) (u : State) : Prop := u.run = .running ∧ ∀ a ∈ g.watchpoints, a ∉ u.busWrites

/-- A step of the run lies behind the loop's `n`-th state from here: always, but for the state the run starts at. -/
def Begun (first : Bool) (n : Nat) : Prop := first = true → 0 < n

/-- What the loop's answer says of the state `t` after `n` steps, where `first` tells whether the run starts here. -/
def RunStatus.Explains (g : Debugger) (stops : List Bool) (first : Bool) (n : Nat) (t : State) :
    RunStatus → Prop
  | .request => stops[n]? = some true ∧ (Begun first n → GoesOn g t)
  | .breakpoint => stops[n]? = some false ∧ Begun first n ∧ GoesOn g t ∧ t.pc ∈ g.breakpoints
  | .watchpoint => 0 < n ∧ t.run = .running ∧ ∃ a ∈ g.watchpoints, a ∈ t.busWrites
  | .halted op a => 0 < n ∧ t.run = .halted op a
  | .going => n = stops.length ∧ (Begun first n → GoesOn g t)
  | .noStep => False

/-- From `s` the loop took `n` steps to `t`, and passed no reason to stop by (R284). -/
structure RunsThrough (g : Debugger) (stops : List Bool) (first : Bool) (n : Nat) (s t : State) : Prop where
  run : Host.Core.run core n s = .next t
  noRequest : ∀ k, k < n → stops[k]? = some false
  passes : ∀ k u, Begun first k → k < n → Host.Core.run core k s = .next u → GoesOn g u ∧ u.pc ∉ g.breakpoints

theorem watchHit_iff : watchHit g t = true ↔ ∃ a ∈ g.watchpoints, a ∈ t.busWrites := by
  simp only [watchHit, List.any_eq_true, List.contains_iff_mem, and_comm]

theorem goesOn_of_not_watchHit (hrun : t.run = .running) (h : ¬watchHit g t = true) : GoesOn g t :=
  ⟨hrun, fun a ha hw => h (watchHit_iff.2 ⟨a, ha, hw⟩)⟩

theorem begun_zero_iff {first : Bool} : Begun first 0 ↔ first = false := by
  simp [Begun]

theorem begun_of_pos {first : Bool} {n : Nat} (h : 0 < n) : Begun first n := fun _ => h

theorem begun_false (n : Nat) : Begun false n := nofun

theorem run_succ (h : step s = .next u) (n : Nat) : Host.Core.run core (n + 1) s = Host.Core.run core n u := by
  have hcore : core.step s = .next u := h
  simp only [Host.Core.run, hcore]

variable {stops more : List Bool} {first : Bool} {r : RunStatus} {n : Nat}

theorem RunsThrough.zero (s : State) : RunsThrough g stops first 0 s s where
  run := rfl
  noRequest k hk := absurd hk k.not_lt_zero
  passes k _ _ hk := absurd hk k.not_lt_zero

/-- One turn more at the start, with no request, and at no breakpoint but for the run's first turn. -/
theorem RunsThrough.succ (hstep : step s = .next u)
    (hpass : first = false → GoesOn g s ∧ s.pc ∉ g.breakpoints) (h : RunsThrough g more false n u t) :
    RunsThrough g (false :: more) first (n + 1) s t where
  run := (run_succ hstep n).trans h.run
  noRequest k hk := by
    cases k with
    | zero => rfl
    | succ k => exact h.noRequest k (Nat.lt_of_succ_lt_succ hk)
  passes k v hbegun hk hv := by
    cases k with
    | zero =>
      cases hv
      exact hpass (begun_zero_iff.1 hbegun)
    | succ k =>
      rw [run_succ hstep] at hv
      exact h.passes k v (begun_false k) (Nat.lt_of_succ_lt_succ hk) hv

/-- What an answer says of the rest of a run it says of the run with one turn more at the start. -/
theorem RunStatus.Explains.succ {stop : Bool} (h : r.Explains g more false n t) :
    r.Explains g (stop :: more) first (n + 1) t := by
  have hpos : 0 < n + 1 := n.succ_pos
  cases r with
  | request => exact ⟨h.1, fun _ => h.2 (begun_false n)⟩
  | breakpoint => exact ⟨h.1, begun_of_pos hpos, h.2.2⟩
  | watchpoint => exact ⟨hpos, h.2⟩
  | halted op a => exact ⟨hpos, h.2⟩
  | going => exact ⟨congrArg (· + 1) h.1, fun _ => h.2 (begun_false n)⟩
  | noStep => exact h

/-- The loop's answer by induction on its turns: where the run has begun, the state at a turn is one it goes on from. -/
theorem runLoop_explains (hgo : first = false → GoesOn g s) (e : runLoop g stops first s = (r, t)) :
    ∃ n, RunsThrough g stops first n s t ∧ r.Explains g stops first n t := by
  induction stops generalizing first s with
  | nil =>
    cases e
    exact ⟨0, .zero _, rfl, fun h => hgo (begun_zero_iff.1 h)⟩
  | cons stop more ih =>
    unfold runLoop at e
    split_ifs at e with hstop hbreak
    · cases e
      exact ⟨0, .zero _, by simp [hstop], fun h => hgo (begun_zero_iff.1 h)⟩
    · cases e
      simp only [Bool.and_eq_true, Bool.not_eq_true', List.contains_iff_mem] at hbreak
      exact ⟨0, .zero _, by simp [hstop], begun_zero_iff.2 hbreak.1, hgo hbreak.1, hbreak.2⟩
    · obtain rfl : stop = false := Bool.eq_false_iff.2 hstop
      have hpass (hfirst : first = false) : GoesOn g s ∧ s.pc ∉ g.breakpoints :=
        ⟨hgo hfirst, fun hb => hbreak (by simp [hfirst, hb])⟩
      obtain ⟨u, hstep⟩ := everyStepAnswersNext s
      simp only [hstep] at e
      have hone : RunsThrough g (false :: more) first 1 s u := .succ hstep hpass (.zero u)
      split at e
      · rename_i op a hrun
        cases e
        exact ⟨1, hone, Nat.one_pos, hrun⟩
      · rename_i hrun
        split_ifs at e with hwatch
        · cases e
          exact ⟨1, hone, Nat.one_pos, hrun, watchHit_iff.1 hwatch⟩
        · obtain ⟨n, hthrough, hreason⟩ := ih (fun _ => goesOn_of_not_watchHit hrun hwatch) e
          exact ⟨n + 1, .succ hstep hpass hthrough, hreason.succ⟩

/-- Settles O59: the loop's answer, for a run that starts here. -/
theorem runStopsForItsReason : Obligations.RunStopsForItsReason := by
  intro g stops s t r e goesOn
  obtain ⟨n, hthrough, hreason⟩ := runLoop_explains (first := true) nofun e
  refine ⟨n, hthrough.run, hthrough.noRequest, fun k u hk => hthrough.passes k u (begun_of_pos hk), ?_⟩
  cases r with
  | request => exact ⟨hreason.1, fun h => hreason.2 (begun_of_pos h)⟩
  | breakpoint => exact ⟨hreason.1, hreason.2.1 rfl, hreason.2.2⟩
  | going => exact ⟨hreason.1, fun h => hreason.2 (begun_of_pos h)⟩
  | watchpoint | halted _ _ | noStep => exact hreason

end Sys2Proof.Machine
end

section
/-! PROOFS. Reset and power-on: the machine before the vector is read, the vector's two bytes, which come from the
KERNAL image, and the machine that power-on builds (70_reset_and_hazards.md R301, R302, R304). -/

namespace Sys2Proof.Machine

variable {s : State} (draw : ResetDraw)

/-- A reset up to the fetch of its vector (R302): bank bits forced, registers drawn, I set, control and chips cleared. -/
def State.cleared (s : State) (draw : ResetDraw) : State :=
  { s.setRamByte 0x0001#16 (s.ramByte 0x0001#16 ||| 0x07#8) with
    a := draw.a, x := draw.x, y := draw.y, sp := draw.sp
    flags := { n := draw.n, v := draw.v, d := draw.d, i := true, z := draw.z, c := draw.c }
    run := .running, nmiInService := false, cycles := 0
    timer0 := Timer.reset, timer1 := Timer.reset, video := Video.reset, busWrites := [] }

/-- The fetch of the reset vector has no effect, so a reset is the cleared machine with PC at the vector. -/
theorem State.resetEvent_eq : s.resetEvent draw = (s.cleared draw).setPc ((s.cleared draw).vectorAt resetVector) := by
  have hread : (s.cleared draw).read16 resetVector = ((s.cleared draw).vectorAt resetVector, s.cleared draw) :=
    State.read16_vector _ (by decide) (by decide)
  change ((s.cleared draw).read16 resetVector).2.setPc ((s.cleared draw).read16 resetVector).1 = _
  rw [hread]

theorem State.cleared_ramByte_port (hram : Memory.wf s.ram = true) :
    (s.cleared draw).ramByte 0x0001#16 = s.ramByte 0x0001#16 ||| 0x07#8 :=
  State.ramByte_setRamByte_eq hram

theorem State.cleared_sameRamBut : SameRamBut [0x0001#16] s (s.cleared draw) :=
  fun _ hw => State.ramByte_setRamByte_ne (List.ne_of_not_mem_cons hw)

/-- With HIRAM forced to 1 the KERNAL image is mapped from $E000 up (20_memory.md R54). -/
theorem State.cleared_peek (hram : Memory.wf s.ram = true) {w : Word} (hw : 0xE000 ≤ w.toNat) :
    (s.cleared draw).peek w = s.kernalByte (w.toNat - 0xE000) := by
  have hhiram : (s.cleared draw).hiram = true := by
    rw [State.hiram, State.cleared_ramByte_port draw hram, BitVec.getLsbD_or]
    exact Bool.or_true _
  have hregion : (s.cleared draw).regionOf w = .kernalRom := region_eq_iff.2 ⟨hw, hhiram⟩
  simp only [State.peek, hregion]
  rfl

/-- The reset vector is the word in the KERNAL image, whatever the bank bits were (R302). -/
theorem State.resetEvent_pc (hram : Memory.wf s.ram = true) :
    (s.resetEvent draw).pc = wordOf (s.kernalByte 0x1FFD) (s.kernalByte 0x1FFC) := by
  rw [State.resetEvent_eq, State.setPc_pc, State.vectorAt, State.cleared_peek draw hram (by decide),
    State.cleared_peek draw hram (by decide)]
  rfl

/-- Settles O14: all but PC is as in the cleared machine, and PC is the KERNAL image's word. -/
theorem resetSequence : Obligations.ResetSequence := by
  intro s draw hram t
  have hpc : t.pc = wordOf (s.kernalByte 0x1FFD) (s.kernalByte 0x1FFC) := State.resetEvent_pc draw hram
  have ht : t = (s.cleared draw).setPc ((s.cleared draw).vectorAt resetVector) := State.resetEvent_eq draw
  rw [hpc, ht]
  exact ⟨rfl, rfl, rfl, rfl, rfl, rfl, rfl, rfl, ⟨rfl, rfl⟩, rfl, State.cleared_ramByte_port draw hram,
    State.cleared_sameRamBut draw, rfl, rfl, rfl⟩

/-- Where no chip asserts its line no interrupt is taken (60_exceptions.md R245). -/
theorem State.not_takes_of_no_line (h0 : s.timer0.line = false) (h1 : s.timer1.line = false)
    (hv : s.video.line = false) : s.takesNmi = false ∧ s.takesIrq = false := by
  simp [State.takesNmi, State.takesIrq, State.nmiLine, State.irqLine, h0, h1, hv]

/-- Settles O15: PC is a word of the KERNAL image alone, and the chips at their reset values assert no line. -/
theorem resetForgetsTheHistory : Obligations.ResetForgetsTheHistory := by
  intro s s' draw draw' hram hram' hkernal
  refine ⟨?_, ?_⟩
  · rw [State.resetEvent_pc draw hram, State.resetEvent_pc draw' hram']
    simp only [State.kernalByte, hkernal]
  · rw [State.resetEvent_eq]
    exact State.not_takes_of_no_line rfl rfl rfl

theorem State.resetEvent_params : (s.resetEvent draw).params = s.params := by
  rw [State.resetEvent_eq]
  rfl

/-- A reset of data in their ranges gives a machine that meets the invariant, whatever run state it had. -/
theorem State.resetEvent_wf (h : s.DataWf) : (s.resetEvent draw).wf = true :=
  State.wf_iff.2 ⟨State.resetEvent_dataWf draw h, State.haltWf_of_running (State.resetEvent_run draw)⟩

/-- The machine that power-on resets (R301). -/
def State.built (p : Params) (initRam basic kernal char : List Byte) : State :=
  { State.reset with
    params := p
    ram := Cells.ofBytes ramUnlisted 0 initRam
    rom :=
      { basic := Cells.ofBytes romUnlisted 0 basic, kernal := Cells.ofBytes romUnlisted 0 kernal
        char := Cells.ofBytes romUnlisted 0 char } }

section PowerOn
variable {p : Params} {initRam basic kernal char : List Byte}

/-- Bytes of the right number are a memory in canonical form. -/
theorem Cells.ofBytes_wf (u : Nat → Byte) {bs : List Byte} {size : Nat} (h : bs.length = size) :
    Cells.wf u size (Cells.ofBytes u 0 bs) = true :=
  Cells.ofBytes_wfFrom bs (by omega) (Nat.le_refl 0)

theorem State.built_dataWf (hp : p.wf = true) (hram : initRam.length = ramSize) (hbasic : basic.length = basicSize)
    (hkernal : kernal.length = kernalSize) (hchar : char.length = charSize) :
    (State.built p initRam basic kernal char).DataWf := by
  have hrom : Roms.wf (State.built p initRam basic kernal char).rom = true := by
    simp only [Roms.wf, State.built, Cells.ofBytes_wf _ hbasic, Cells.ofBytes_wf _ hkernal, Cells.ofBytes_wf _ hchar,
      Bool.and_self]
  exact ⟨Cells.ofBytes_wf _ hram, hrom, hp, Timer.reset_wf, Timer.reset_wf, Video.reset_wf hp⟩

/-- Power-on answers the reset of the built machine where the parameters are in range and every size is right
(93_implementation_defined.md K11; log 13). -/
theorem State.powerOn_of_sizes (hp : p.wf = true) (hram : initRam.length = ramSize) (hbasic : basic.length = basicSize)
    (hkernal : kernal.length = kernalSize) (hchar : char.length = charSize) :
    State.powerOn p initRam basic kernal char draw = some ((State.built p initRam basic kernal char).resetEvent draw) :=
  if_pos (by simp [hp, hram, hbasic, hkernal, hchar])

/-- Power-on answers nothing where a ROM image has another size (93_implementation_defined.md K11; log 13). -/
theorem State.powerOn_of_wrong_rom
    (h : basic.length ≠ basicSize ∨ kernal.length ≠ kernalSize ∨ char.length ≠ charSize) :
    State.powerOn p initRam basic kernal char draw = none := by
  refine if_neg fun hsizes => ?_
  simp only [Bool.and_eq_true, beq_iff_eq] at hsizes
  obtain ⟨⟨⟨-, hbasic⟩, hkernal⟩, hchar⟩ := hsizes
  rcases h with h | h | h <;> contradiction

end PowerOn

/-- Settles O17: images of the right sizes lie in canonical form, and a reset keeps the ranges of the data and
leaves a running machine. -/
theorem powerOnBuildsAWellFormedMachine : Obligations.PowerOnBuildsAWellFormedMachine := by
  intro p initRam basic kernal char draw
  refine ⟨fun hp hram hbasic hkernal hchar => ?_, State.powerOn_of_wrong_rom draw⟩
  exact ⟨_, State.powerOn_of_sizes draw hp hram hbasic hkernal hchar,
    State.resetEvent_wf draw (State.built_dataWf hp hram hbasic hkernal hchar), State.resetEvent_run draw,
    State.resetEvent_params draw⟩

/-- Settles O16: the values stand in `State.reset`, and its memories, parameters and chips are in their ranges. -/
theorem resetStateIsWellFormed : Obligations.ResetStateIsWellFormed := by
  have hdata : State.reset.DataWf :=
    ⟨State.reset_ram_wf, rfl, rfl, Timer.reset_wf, Timer.reset_wf, Video.reset_wf rfl⟩
  exact ⟨State.wf_iff.2 ⟨hdata, State.haltWf_of_running rfl⟩, rfl, rfl, rfl, rfl, rfl, rfl, rfl, rfl,
    ⟨rfl, rfl, rfl, rfl, rfl⟩, rfl, rfl⟩

end Sys2Proof.Machine
end
